-- ==== Sys2Proof/Word.lean ====
section
/-! DEFINITION. The machine's word types: 00_scope.md R6, 30_encoding.md R45. -/

namespace Sys2Proof

/-- The data of one access, a port address, a stack pointer: 8 bits (00_scope.md R6). -/
abbrev Byte := BitVec 8

/-- A logical screen register, a surface size, a palette output: 16 bits (00_scope.md R6). -/
abbrev Half := BitVec 16

/-- A transaction word `T`: `T[16] = W`, `T[15:8] = A`, `T[7:0] = D` (30_encoding.md R45). -/
abbrev Txn := BitVec 17

end Sys2Proof
end

