-- ==== Sys2Proof/Config.lean ====
section
/-! DEFINITION. What an implementation fixes (the capability straps of 00_scope.md R7) and what the environment
is free to present (the inputs of 00_scope.md R8). -/

namespace Sys2Proof

/-- The four capability straps (00_scope.md R7). They are fixed from reset onward; no step writes them. -/
structure Caps where
  /-- `HAS_CONSOLE`: console output and error streams present. -/
  hasConsole : Bool
  /-- `HAS_SCREEN`: drawable surface present. -/
  hasScreen : Bool
  /-- `HAS_CLOCK`: real-time-clock source present. -/
  hasClock : Bool
  /-- `HAS_DIAG`: diagnostics sink present. -/
  hasDiag : Bool
deriving DecidableEq, Repr, Inhabited

/-- The straps a row of the opcode table can require (30_encoding.md R48). -/
inductive Strap where
  | console
  | screen
  | clock
deriving DecidableEq, Repr

/-- The clock inputs, port-ready values of the stated widths (10_state.md R28). -/
structure Rtc where
  year : Half
  month0 : Byte
  day0 : Byte
  hour : Byte
  minute : Byte
  second : Byte
  weekday : Byte
  yday : Half
deriving DecidableEq, Repr, Inhabited

/-- The input signals of the surface, console and clock ports as the environment presents them for one step
(10_state.md R26 to R28). An answer is `none` while `con_rsp` (`fill_rsp`) is 0, and `some ok` with `con_ok`
(`fill_ok`) when it is 1. -/
structure Pins where
  surfW : Half
  surfH : Half
  conRsp : Option Bool
  fillRsp : Option Bool
  rtc : Rtc
deriving DecidableEq, Repr, Inhabited

/-- What the environment does at one step: the input signals it presents, and the core's own moves of its two
stack pointers since the step before (`none`: it did not move that pointer; 10_state.md R20, R25). -/
structure Sample where
  pins : Pins
  coreWst : Option Byte
  coreRst : Option Byte
deriving DecidableEq, Repr, Inhabited

/-- The straps `State.reset` is built with: every capability present, as in 95_test_vectors.md section 0.
DESIGN CHOICE (log entry 3), unsafe for a claim about `State.reset` alone: another build has other straps. -/
def Config.straps : Caps := ⟨true, true, true, true⟩

/-- FREE VALUE (log entry 2): the environment's sample at the `n`-th step that no script covers. It has no
definition one could compute with: a claim holds whatever the environment presents (00_scope.md R8,
93_implementation_defined.md I7 to I12). -/
opaque Config.drawSample : Nat → Sample

end Sys2Proof
end

