-- ==== Sys2Proof/Syntax.lean ====
section
/-! DEFINITION. The access classes: one constructor per row of spec/opcode_table.json, in the order of
30_encoding.md R54. -/

namespace Sys2Proof

/-- One bus access class with its operands. A read's data byte has no meaning (30_encoding.md R55) and is no
operand; a write's byte `v` is kept whole, since every write stores it whole (R49). The rows of an audio or file
page take the port within the page; the two default rows take the whole address. -/
inductive Instr where
  -- 41_system_page.md: reads
  | rdSysWst
  | rdSysRst
  -- 43_screen_page.md: reads
  | rdScrWidthHi
  | rdScrWidthLo
  | rdScrHeightHi
  | rdScrHeightLo
  | rdScrXHi
  | rdScrXLo
  | rdScrYHi
  | rdScrYLo
  | rdScrSprHi
  | rdScrSprLo
  -- 45_clock_page.md: reads
  | rdRtcYearHi
  | rdRtcYearLo
  | rdRtcMonth
  | rdRtcDay
  | rdRtcHour
  | rdRtcMinute
  | rdRtcSecond
  | rdRtcWeekday
  | rdRtcYdayHi
  | rdRtcYdayLo
  | rdRtcDst
  -- 40_dispatch.md: the default read
  | rdShadow (a : Byte)
  -- 41_system_page.md: writes
  | wrSysExpansion (v : Byte)
  | wrSysWst (v : Byte)
  | wrSysRst (v : Byte)
  | wrSysDebug (v : Byte)
  -- 42_console_page.md: writes
  | wrConOut (v : Byte)
  | wrConErr (v : Byte)
  -- 43_screen_page.md: writes
  | wrScrAuto (v : Byte)
  | wrScrXHi (v : Byte)
  | wrScrXLo (v : Byte)
  | wrScrYHi (v : Byte)
  | wrScrYLo (v : Byte)
  | wrScrSprHi (v : Byte)
  | wrScrSprLo (v : Byte)
  | wrScrDrawPixel (v : Byte)
  | wrScrDrawFill (v : Byte)
  -- 44_stub_pages.md: writes
  | wrAudioP3 (port : BitVec 4) (v : Byte)
  | wrAudioP4 (port : BitVec 4) (v : Byte)
  | wrAudioP5 (port : BitVec 4) (v : Byte)
  | wrAudioP6 (port : BitVec 4) (v : Byte)
  | wrFilePa (port : BitVec 4) (v : Byte)
  | wrFilePb (port : BitVec 4) (v : Byte)
  -- 40_dispatch.md: the default write
  | wrShadow (a : Byte) (v : Byte)
deriving DecidableEq, Repr

end Sys2Proof
end

