-- ==== Sys2Proof/WellFormed.lean ====
section
/-! DEFINITION. Which accesses a build with given straps can be presented with: the capability a row requires
(30_encoding.md R48), the draw byte's mode bit (R50), and the addresses the default rows are left with (R47). -/

namespace Sys2Proof

/-- Whether a strap is set. -/
def Strap.holds (c : Caps) : Strap → Bool
  | .console => c.hasConsole
  | .screen => c.hasScreen
  | .clock => c.hasClock

/-- The reads that a row before `RD_SHADOW` takes, by address (20_memory.md R40, 43_screen_page.md R98,
45_clock_page.md R118). -/
def specialRead (c : Caps) (a : Byte) : Bool :=
  (a == 0x04 || a == 0x05) ||
  (c.hasScreen && ((0x22 ≤ a && a ≤ 0x25) || (0x28 ≤ a && a ≤ 0x2D))) ||
  (c.hasClock && (0xC0 ≤ a && a ≤ 0xCA))

/-- The writes that a row before `WR_SHADOW` takes, by address (20_memory.md R40, 42_console_page.md R74,
43_screen_page.md R98, 44_stub_pages.md R101 to R106). -/
def specialWrite (c : Caps) (a : Byte) : Bool :=
  (a == 0x03 || a == 0x04 || a == 0x05 || a == 0x0E) ||
  (c.hasConsole && (a == 0x18 || a == 0x19)) ||
  (c.hasScreen && (a == 0x26 || (0x28 ≤ a && a ≤ 0x2E))) ||
  (0x30 ≤ a && a ≤ 0x6F) ||
  (0xA0 ≤ a && a ≤ 0xBF)

/-- The instructions that some transaction word selects in a build with straps `c`. -/
def Instr.wellFormed (c : Caps) : Instr → Bool
  | .rdSysWst | .rdSysRst => true
  | .rdScrWidthHi | .rdScrWidthLo | .rdScrHeightHi | .rdScrHeightLo
  | .rdScrXHi | .rdScrXLo | .rdScrYHi | .rdScrYLo | .rdScrSprHi | .rdScrSprLo => c.hasScreen
  | .rdRtcYearHi | .rdRtcYearLo | .rdRtcMonth | .rdRtcDay | .rdRtcHour | .rdRtcMinute | .rdRtcSecond
  | .rdRtcWeekday | .rdRtcYdayHi | .rdRtcYdayLo | .rdRtcDst => c.hasClock
  | .rdShadow a => !specialRead c a
  | .wrSysExpansion _ | .wrSysWst _ | .wrSysRst _ | .wrSysDebug _ => true
  | .wrConOut _ | .wrConErr _ => c.hasConsole
  | .wrScrAuto _ | .wrScrXHi _ | .wrScrXLo _ | .wrScrYHi _ | .wrScrYLo _ | .wrScrSprHi _ | .wrScrSprLo _ => c.hasScreen
  | .wrScrDrawPixel v => c.hasScreen && !v.getLsbD 7
  | .wrScrDrawFill v => c.hasScreen && v.getLsbD 7
  | .wrAudioP3 _ _ | .wrAudioP4 _ _ | .wrAudioP5 _ _ | .wrAudioP6 _ _ => true
  | .wrFilePa _ _ | .wrFilePb _ _ => true
  | .wrShadow a _ => !specialWrite c a

end Sys2Proof
end

