-- ==== Sys2Proof/Decode.lean ====
section
/-! DEFINITION. The transaction word, the decoder (a priority match over the rows of the opcode table, 30_encoding.md
R47, R48, R54) and, after it, the encoder. Decoding a transaction word rejects nothing (R55); a number that is no
17-bit transaction word is rejected by `decodeTableWord`. -/

namespace Sys2Proof

/-- `W = T[16]`: 1 = write, 0 = read (30_encoding.md R45). -/
def Txn.isWrite (t : Txn) : Bool := t.getLsbD 16

/-- `A = T[15:8]`, the port address (30_encoding.md R45). -/
def Txn.addr (t : Txn) : Byte := t.extractLsb' 8 8

/-- `T[11:8]`, the port within the page (30_encoding.md R46). -/
def Txn.port (t : Txn) : BitVec 4 := t.extractLsb' 8 4

/-- `D = T[7:0]`, the write data byte (30_encoding.md R45). -/
def Txn.data (t : Txn) : Byte := t.extractLsb' 0 8

/-- `T = W·0x10000 + A·0x100 + D` (30_encoding.md R45). -/
def Txn.pack (w : Bool) (a d : Byte) : Txn :=
  (if w then 0x10000 else 0) ||| (a.setWidth 17 <<< 8) ||| d.setWidth 17

/-- The canonical form of a transaction word: a read's D is 0x00 (30_encoding.md R45). -/
def Txn.canonical (t : Txn) : Txn := if t.isWrite then t else t &&& 0x1FF00

/-- One row of the opcode table: its match value, its mask, the capability it requires, and the instruction it
selects with the operands cut from the word. -/
structure Row where
  value : Txn
  mask : Txn
  requires : Option Strap
  build : Txn → Instr

/-- A row matches `T` when `(T & mask) == match` and its capability requirement holds (30_encoding.md R47, R48). -/
def Row.selects (c : Caps) (t : Txn) (r : Row) : Bool :=
  (t &&& r.mask) == r.value && (r.requires.map (Strap.holds c)).getD true

/-- Rows 1 to 24 of 30_encoding.md R54. -/
def readRows : List Row := [
  ⟨0x00400, 0x1FF00, none, fun _ => .rdSysWst⟩,
  ⟨0x00500, 0x1FF00, none, fun _ => .rdSysRst⟩,
  ⟨0x02200, 0x1FF00, some .screen, fun _ => .rdScrWidthHi⟩,
  ⟨0x02300, 0x1FF00, some .screen, fun _ => .rdScrWidthLo⟩,
  ⟨0x02400, 0x1FF00, some .screen, fun _ => .rdScrHeightHi⟩,
  ⟨0x02500, 0x1FF00, some .screen, fun _ => .rdScrHeightLo⟩,
  ⟨0x02800, 0x1FF00, some .screen, fun _ => .rdScrXHi⟩,
  ⟨0x02900, 0x1FF00, some .screen, fun _ => .rdScrXLo⟩,
  ⟨0x02A00, 0x1FF00, some .screen, fun _ => .rdScrYHi⟩,
  ⟨0x02B00, 0x1FF00, some .screen, fun _ => .rdScrYLo⟩,
  ⟨0x02C00, 0x1FF00, some .screen, fun _ => .rdScrSprHi⟩,
  ⟨0x02D00, 0x1FF00, some .screen, fun _ => .rdScrSprLo⟩,
  ⟨0x0C000, 0x1FF00, some .clock, fun _ => .rdRtcYearHi⟩,
  ⟨0x0C100, 0x1FF00, some .clock, fun _ => .rdRtcYearLo⟩,
  ⟨0x0C200, 0x1FF00, some .clock, fun _ => .rdRtcMonth⟩,
  ⟨0x0C300, 0x1FF00, some .clock, fun _ => .rdRtcDay⟩,
  ⟨0x0C400, 0x1FF00, some .clock, fun _ => .rdRtcHour⟩,
  ⟨0x0C500, 0x1FF00, some .clock, fun _ => .rdRtcMinute⟩,
  ⟨0x0C600, 0x1FF00, some .clock, fun _ => .rdRtcSecond⟩,
  ⟨0x0C700, 0x1FF00, some .clock, fun _ => .rdRtcWeekday⟩,
  ⟨0x0C800, 0x1FF00, some .clock, fun _ => .rdRtcYdayHi⟩,
  ⟨0x0C900, 0x1FF00, some .clock, fun _ => .rdRtcYdayLo⟩,
  ⟨0x0CA00, 0x1FF00, some .clock, fun _ => .rdRtcDst⟩,
  ⟨0x00000, 0x10000, none, fun t => .rdShadow t.addr⟩ ]

/-- Rows 25 to 46 of 30_encoding.md R54. -/
def writeRows : List Row := [
  ⟨0x10300, 0x1FF00, none, fun t => .wrSysExpansion t.data⟩,
  ⟨0x10400, 0x1FF00, none, fun t => .wrSysWst t.data⟩,
  ⟨0x10500, 0x1FF00, none, fun t => .wrSysRst t.data⟩,
  ⟨0x10E00, 0x1FF00, none, fun t => .wrSysDebug t.data⟩,
  ⟨0x11800, 0x1FF00, some .console, fun t => .wrConOut t.data⟩,
  ⟨0x11900, 0x1FF00, some .console, fun t => .wrConErr t.data⟩,
  ⟨0x12600, 0x1FF00, some .screen, fun t => .wrScrAuto t.data⟩,
  ⟨0x12800, 0x1FF00, some .screen, fun t => .wrScrXHi t.data⟩,
  ⟨0x12900, 0x1FF00, some .screen, fun t => .wrScrXLo t.data⟩,
  ⟨0x12A00, 0x1FF00, some .screen, fun t => .wrScrYHi t.data⟩,
  ⟨0x12B00, 0x1FF00, some .screen, fun t => .wrScrYLo t.data⟩,
  ⟨0x12C00, 0x1FF00, some .screen, fun t => .wrScrSprHi t.data⟩,
  ⟨0x12D00, 0x1FF00, some .screen, fun t => .wrScrSprLo t.data⟩,
  ⟨0x12E00, 0x1FF80, some .screen, fun t => .wrScrDrawPixel t.data⟩,
  ⟨0x12E80, 0x1FF80, some .screen, fun t => .wrScrDrawFill t.data⟩,
  ⟨0x13000, 0x1F000, none, fun t => .wrAudioP3 t.port t.data⟩,
  ⟨0x14000, 0x1F000, none, fun t => .wrAudioP4 t.port t.data⟩,
  ⟨0x15000, 0x1F000, none, fun t => .wrAudioP5 t.port t.data⟩,
  ⟨0x16000, 0x1F000, none, fun t => .wrAudioP6 t.port t.data⟩,
  ⟨0x1A000, 0x1F000, none, fun t => .wrFilePa t.port t.data⟩,
  ⟨0x1B000, 0x1F000, none, fun t => .wrFilePb t.port t.data⟩,
  ⟨0x10000, 0x10000, none, fun t => .wrShadow t.addr t.data⟩ ]

/-- The rows of the opcode table, in table order (30_encoding.md R54). -/
def rows : List Row := readRows ++ writeRows

/-- The first matching row selects the operation (30_encoding.md R47). -/
def decode (c : Caps) (t : Txn) : Option Instr :=
  (rows.find? (Row.selects c t)).map (fun r => r.build t)

/-- What this decoder reads from an opcode-table word: the word is presented as a transaction word to a build with
every capability present. A number with a bit above the 17 of a transaction word is rejected (log entry 13). -/
def decodeTableWord (nbits w : Nat) : Option Instr :=
  if w % 2 ^ nbits < 2 ^ 17 then decode ⟨true, true, true, true⟩ (BitVec.ofNat 17 (w % 2 ^ nbits)) else none

/-- Whether the access is a write (`W`). -/
def Instr.isWrite : Instr → Bool
  | .rdSysWst | .rdSysRst
  | .rdScrWidthHi | .rdScrWidthLo | .rdScrHeightHi | .rdScrHeightLo
  | .rdScrXHi | .rdScrXLo | .rdScrYHi | .rdScrYLo | .rdScrSprHi | .rdScrSprLo
  | .rdRtcYearHi | .rdRtcYearLo | .rdRtcMonth | .rdRtcDay | .rdRtcHour | .rdRtcMinute | .rdRtcSecond
  | .rdRtcWeekday | .rdRtcYdayHi | .rdRtcYdayLo | .rdRtcDst | .rdShadow _ => false
  | .wrSysExpansion _ | .wrSysWst _ | .wrSysRst _ | .wrSysDebug _ | .wrConOut _ | .wrConErr _
  | .wrScrAuto _ | .wrScrXHi _ | .wrScrXLo _ | .wrScrYHi _ | .wrScrYLo _ | .wrScrSprHi _ | .wrScrSprLo _
  | .wrScrDrawPixel _ | .wrScrDrawFill _
  | .wrAudioP3 _ _ | .wrAudioP4 _ _ | .wrAudioP5 _ _ | .wrAudioP6 _ _
  | .wrFilePa _ _ | .wrFilePb _ _ | .wrShadow _ _ => true

/-- The port address `A` of the access, as its operation rule names it. -/
def Instr.addr : Instr → Byte
  | .rdSysWst => 0x04
  | .rdSysRst => 0x05
  | .rdScrWidthHi => 0x22
  | .rdScrWidthLo => 0x23
  | .rdScrHeightHi => 0x24
  | .rdScrHeightLo => 0x25
  | .rdScrXHi => 0x28
  | .rdScrXLo => 0x29
  | .rdScrYHi => 0x2A
  | .rdScrYLo => 0x2B
  | .rdScrSprHi => 0x2C
  | .rdScrSprLo => 0x2D
  | .rdRtcYearHi => 0xC0
  | .rdRtcYearLo => 0xC1
  | .rdRtcMonth => 0xC2
  | .rdRtcDay => 0xC3
  | .rdRtcHour => 0xC4
  | .rdRtcMinute => 0xC5
  | .rdRtcSecond => 0xC6
  | .rdRtcWeekday => 0xC7
  | .rdRtcYdayHi => 0xC8
  | .rdRtcYdayLo => 0xC9
  | .rdRtcDst => 0xCA
  | .rdShadow a => a
  | .wrSysExpansion _ => 0x03
  | .wrSysWst _ => 0x04
  | .wrSysRst _ => 0x05
  | .wrSysDebug _ => 0x0E
  | .wrConOut _ => 0x18
  | .wrConErr _ => 0x19
  | .wrScrAuto _ => 0x26
  | .wrScrXHi _ => 0x28
  | .wrScrXLo _ => 0x29
  | .wrScrYHi _ => 0x2A
  | .wrScrYLo _ => 0x2B
  | .wrScrSprHi _ => 0x2C
  | .wrScrSprLo _ => 0x2D
  | .wrScrDrawPixel _ => 0x2E
  | .wrScrDrawFill _ => 0x2E
  | .wrAudioP3 p _ => 0x3#4 ++ p
  | .wrAudioP4 p _ => 0x4#4 ++ p
  | .wrAudioP5 p _ => 0x5#4 ++ p
  | .wrAudioP6 p _ => 0x6#4 ++ p
  | .wrFilePa p _ => 0xA#4 ++ p
  | .wrFilePb p _ => 0xB#4 ++ p
  | .wrShadow a _ => a

/-- The data byte `D` of the access: a write's `v`, and 0x00 for a read (30_encoding.md R45, R49). -/
def Instr.data : Instr → Byte
  | .rdSysWst | .rdSysRst
  | .rdScrWidthHi | .rdScrWidthLo | .rdScrHeightHi | .rdScrHeightLo
  | .rdScrXHi | .rdScrXLo | .rdScrYHi | .rdScrYLo | .rdScrSprHi | .rdScrSprLo
  | .rdRtcYearHi | .rdRtcYearLo | .rdRtcMonth | .rdRtcDay | .rdRtcHour | .rdRtcMinute | .rdRtcSecond
  | .rdRtcWeekday | .rdRtcYdayHi | .rdRtcYdayLo | .rdRtcDst | .rdShadow _ => 0x00
  | .wrSysExpansion v | .wrSysWst v | .wrSysRst v | .wrSysDebug v | .wrConOut v | .wrConErr v
  | .wrScrAuto v | .wrScrXHi v | .wrScrXLo v | .wrScrYHi v | .wrScrYLo v | .wrScrSprHi v | .wrScrSprLo v
  | .wrScrDrawPixel v | .wrScrDrawFill v
  | .wrAudioP3 _ v | .wrAudioP4 _ v | .wrAudioP5 _ v | .wrAudioP6 _ v
  | .wrFilePa _ v | .wrFilePb _ v | .wrShadow _ v => v

/-- A row's match value with a data byte in `T[7:0]`. -/
def rowWord (value : Txn) (v : Byte) : Txn := value ||| v.setWidth 17

/-- A page row's match value with a port in `T[11:8]` and a data byte in `T[7:0]`. -/
def pageRowWord (value : Txn) (p : BitVec 4) (v : Byte) : Txn :=
  value ||| (p.setWidth 17 <<< 8) ||| v.setWidth 17

/-- The canonical transaction word of an instruction, from the match values of 30_encoding.md R54. -/
def encode : Instr → Txn
  | .rdSysWst => 0x00400
  | .rdSysRst => 0x00500
  | .rdScrWidthHi => 0x02200
  | .rdScrWidthLo => 0x02300
  | .rdScrHeightHi => 0x02400
  | .rdScrHeightLo => 0x02500
  | .rdScrXHi => 0x02800
  | .rdScrXLo => 0x02900
  | .rdScrYHi => 0x02A00
  | .rdScrYLo => 0x02B00
  | .rdScrSprHi => 0x02C00
  | .rdScrSprLo => 0x02D00
  | .rdRtcYearHi => 0x0C000
  | .rdRtcYearLo => 0x0C100
  | .rdRtcMonth => 0x0C200
  | .rdRtcDay => 0x0C300
  | .rdRtcHour => 0x0C400
  | .rdRtcMinute => 0x0C500
  | .rdRtcSecond => 0x0C600
  | .rdRtcWeekday => 0x0C700
  | .rdRtcYdayHi => 0x0C800
  | .rdRtcYdayLo => 0x0C900
  | .rdRtcDst => 0x0CA00
  | .rdShadow a => a.setWidth 17 <<< 8
  | .wrSysExpansion v => rowWord 0x10300 v
  | .wrSysWst v => rowWord 0x10400 v
  | .wrSysRst v => rowWord 0x10500 v
  | .wrSysDebug v => rowWord 0x10E00 v
  | .wrConOut v => rowWord 0x11800 v
  | .wrConErr v => rowWord 0x11900 v
  | .wrScrAuto v => rowWord 0x12600 v
  | .wrScrXHi v => rowWord 0x12800 v
  | .wrScrXLo v => rowWord 0x12900 v
  | .wrScrYHi v => rowWord 0x12A00 v
  | .wrScrYLo v => rowWord 0x12B00 v
  | .wrScrSprHi v => rowWord 0x12C00 v
  | .wrScrSprLo v => rowWord 0x12D00 v
  | .wrScrDrawPixel v => rowWord 0x12E00 v
  | .wrScrDrawFill v => rowWord 0x12E80 v
  | .wrAudioP3 p v => pageRowWord 0x13000 p v
  | .wrAudioP4 p v => pageRowWord 0x14000 p v
  | .wrAudioP5 p v => pageRowWord 0x15000 p v
  | .wrAudioP6 p v => pageRowWord 0x16000 p v
  | .wrFilePa p v => pageRowWord 0x1A000 p v
  | .wrFilePb p v => pageRowWord 0x1B000 p v
  | .wrShadow a v => 0x10000 ||| (a.setWidth 17 <<< 8) ||| v.setWidth 17

end Sys2Proof
end

