-- ==== Sys2Proof/Machine/State.lean ====
section
/-! DEFINITION. The machine's state as plain data (10_state.md R21 is the spec's summary of it), its reset
(70_reset_and_hazards.md R139), and the reasons a step could stop. -/

namespace Sys2Proof.Machine

/-- The shadow register file (10_state.md R13) as address and byte pairs in one canonical form: addresses strictly
rising, none outside the port space, no byte equal to what an unlisted address reads as (`Memory.wf`). -/
abbrev Memory := List Host.Cell

/-- The screen registers and control fields (10_state.md R15, R16). -/
structure Screen where
  /-- `scr.x`, the cursor x. -/
  x : Half
  /-- `scr.y`, the cursor y. -/
  y : Half
  /-- `scr.sprite`; no operation consumes it (20_memory.md R33). -/
  sprite : Half
  /-- `scr.auto_x`. -/
  autoX : Bool
  /-- `scr.auto_y`. -/
  autoY : Bool
  /-- `scr.auto_sprite`; stored and never consumed. -/
  autoSprite : Bool
  /-- `scr.length`; stored and never consumed. -/
  length : BitVec 4
deriving DecidableEq, Repr, Inhabited

/-- `fsm.phase` (10_state.md R19). -/
inductive Phase where
  | idle
  | waitCon
  | waitFill
deriving DecidableEq, Repr, Inhabited

/-- The access sequencer (10_state.md R19). `pixel` records whether the outstanding fill request came from a pixel
draw. -/
structure Sequencer where
  phase : Phase
  pixel : Bool
deriving DecidableEq, Repr, Inhabited

/-- The CPU core's two exposed stack pointers (10_state.md R20). -/
structure CorePointers where
  wst : Byte
  rst : Byte
deriving DecidableEq, Repr, Inhabited

/-- Which of the core's stack pointers a strobe writes (10_state.md R25). -/
inductive CoreReg where
  | wst
  | rst
deriving DecidableEq, Repr

/-- Which console stream a byte goes to (10_state.md R27). -/
inductive Chan where
  | out
  | err
deriving DecidableEq, Repr

/-- The diagnostic event codes that are emitted (10_state.md R29). -/
inductive DiagCode where
  | expansion
  | stackDump
  | audioWrite
  | fileWrite
  | rtcDstRead
deriving DecidableEq, Repr

/-- What an access hands to a collaborator (40_dispatch.md R61). -/
inductive Event where
  | coreWrite (sp : CoreReg) (v : Byte)
  | consoleWrite (chan : Chan) (v : Byte)
  | surfaceFill (x y w h : Half) (colour : BitVec 2) (fg : Bool)
  | diag (code : DiagCode) (a v : Byte)
deriving DecidableEq, Repr

/-- The machine's state. -/
structure State where
  /-- The capability straps (00_scope.md R7); no step writes them. -/
  caps : Caps
  /-- The shadow register file (10_state.md R13). -/
  shadow : Memory
  /-- `scr.*` (10_state.md R15, R16). -/
  scr : Screen
  /-- `fsm.*` (10_state.md R19). -/
  fsm : Sequencer
  /-- `core.wst` and `core.rst`, the core's own registers (10_state.md R20). -/
  core : CorePointers
  /-- The input signals as last sampled (10_state.md R26 to R28). -/
  pins : Pins
  /-- MODEL's own (log entry 1): the transaction words the core will present at the access port, in order. -/
  accesses : List Txn
  /-- MODEL's own (log entry 2): what the environment presents at the next steps, one sample a step. -/
  script : List Sample
  /-- MODEL's own (log entry 2): how many samples have been taken. -/
  samples : Nat
  /-- `acc_done`: an access completed in this step (10_state.md R24). -/
  accDone : Bool
  /-- `acc_rdata`, present when the completed access is a read (10_state.md R24; log entry 9). -/
  accRdata : Option Byte
  /-- What this step handed to a collaborator, at most one event (40_dispatch.md R61). -/
  event : Option Event
  /-- MODEL's own (log entry 9): all events so far, newest first. -/
  sent : List Event
deriving DecidableEq, Repr

/-- Why the machine can stop with a fault. It has no constructor: the block raises no exception and an access has
no error outcome (60_exceptions.md R126, 40_dispatch.md R65; log entry 11). -/
inductive Fault
deriving DecidableEq, Repr

/-- Why a step can be refused. -/
inductive Refusal where
  /-- Raised by an arm of `exec` whose instruction has no meaning yet; no arm is left that does. Safe. -/
  | notModelled (mnemonic : String)
  /-- Raised by `step` if no row of the opcode table selected the word. Every word selects one (30_encoding.md R47),
  so no step raises it. Safe: the machine stops. -/
  | noRow
deriving DecidableEq, Repr

/-- The outcome of one step of this machine. -/
abbrev Outcome := Host.Outcome State Fault Refusal

/-- The machine right after reset in a build with straps `c` (70_reset_and_hazards.md R139). The values of `core`
(log entry 5), `pins` (log entry 6), of the outputs (log entry 9) and of the model's own fields (log entries 1, 2) are
DESIGN CHOICE. -/
def State.resetWith (c : Caps) : State where
  caps := c
  shadow := []
  scr := ⟨0, 0, 0, false, false, false, 0⟩
  fsm := ⟨.idle, false⟩
  core := ⟨0, 0⟩
  pins := ⟨0, 0, none, none, ⟨0, 0, 0, 0, 0, 0, 0, 0⟩⟩
  accesses := []
  script := []
  samples := 0
  accDone := false
  accRdata := none
  event := none
  sent := []

/-- The machine right after reset, with the straps of `Config.straps` (DESIGN CHOICE, log entry 3). -/
def State.reset : State := State.resetWith Config.straps

end Sys2Proof.Machine
end

