-- ==== Sys2Proof/Machine/Operands.lean ====
section
/-! DEFINITION. Operand forms: the fields of an address and of the two control bytes, the halves of a 16-bit
quantity, and the fill rectangle. -/

namespace Sys2Proof.Machine

/-- `hi8(v) = v[15:8]` (00_scope.md R9). -/
def hi8 (v : Half) : Byte := v.extractLsb' 8 8

/-- `lo8(v) = v[7:0]` (00_scope.md R9). -/
def lo8 (v : Half) : Byte := v.extractLsb' 0 8

/-- `cat16(h, l) = (zext_16(h) << 8) | zext_16(l)` (00_scope.md R9). -/
def cat16 (h l : Byte) : Half := (h.setWidth 16 <<< 8) ||| l.setWidth 16

/-- `pg(a) = a & 0xF0` (00_scope.md R9, 30_encoding.md R46). -/
def pg (a : Byte) : Byte := a &&& 0xF0

/-- `pt(a) = a & 0x0F` (00_scope.md R9, 30_encoding.md R46). -/
def pt (a : Byte) : Byte := a &&& 0x0F

/-- The address of a port of a page, the page given by its high nibble (30_encoding.md R46). -/
def pageAddr (page port : BitVec 4) : Byte := (page.setWidth 8 <<< 4) ||| port.setWidth 8

/-- `colour = v[1:0]` of the draw byte (30_encoding.md R50, 43_screen_page.md R92). -/
def drawColour (v : Byte) : BitVec 2 := v.extractLsb' 0 2

/-- `flip_x = v[4]` of the draw byte (30_encoding.md R50). -/
def drawFlipX (v : Byte) : Bool := v.getLsbD 4

/-- `flip_y = v[5]` of the draw byte (30_encoding.md R50). -/
def drawFlipY (v : Byte) : Bool := v.getLsbD 5

/-- `fg = v[6]` of the draw byte (30_encoding.md R50). -/
def drawFg (v : Byte) : Bool := v.getLsbD 6

/-- `fill = v[7]` of the draw byte: 0 = pixel mode, 1 = fill mode (30_encoding.md R50). -/
def drawFill (v : Byte) : Bool := v.getLsbD 7

/-- `auto_x = v[0]` of the auto byte (30_encoding.md R51). -/
def autoByteX (v : Byte) : Bool := v.getLsbD 0

/-- `auto_y = v[1]` of the auto byte (30_encoding.md R51). -/
def autoByteY (v : Byte) : Bool := v.getLsbD 1

/-- `auto_sprite = v[2]` of the auto byte (30_encoding.md R51). -/
def autoByteSprite (v : Byte) : Bool := v.getLsbD 2

/-- `length = v[7:4]` of the auto byte (30_encoding.md R51). -/
def autoByteLength (v : Byte) : BitVec 4 := v.extractLsb' 4 4

/-- Origin and size of a fill along one axis: `(0, c)` with the flip, else `(c, size -16 c)`, modulo 2^16
(43_screen_page.md R95; the wrap is the spec's decision D8). -/
def fillSpan (flip : Bool) (c size : Half) : Half × Half :=
  if flip then (0, c) else (c, size - c)

end Sys2Proof.Machine
end

