-- ==== Sys2Proof/Machine/Ops.lean ====
section
/-! DEFINITION. The named operations over the shadow file, the registers, the sequencer and the interface. The block
takes no exception and returns from none (60_exceptions.md R126, R131), so there is no operation for either. -/

namespace Sys2Proof.Machine

/-! ### The shadow register file -/

/-- What an address reads as that holds no entry: the reset value 0x00 (70_reset_and_hazards.md R139). -/
def Memory.unlisted : Byte := 0x00

/-- The byte at an address. -/
def Memory.read (m : Memory) (a : Nat) : Byte :=
  match m.find? (fun c => c.1 == a) with
  | some c => c.2
  | none => Memory.unlisted

/-- The file without any entry for an address. -/
def Memory.erase (m : Memory) (a : Nat) : Memory := m.filter (fun c => c.1 != a)

/-- An entry put at its place in a file that has none for its address. -/
def Memory.insert (a : Nat) (v : Byte) : Memory → Memory
  | [] => [(a, v)]
  | c :: m => if a < c.1 then (a, v) :: c :: m else c :: Memory.insert a v m

/-- A store of one byte; storing what an unlisted address reads as removes the entry. -/
def Memory.write (m : Memory) (a : Nat) (v : Byte) : Memory :=
  if v = Memory.unlisted then m.erase a else Memory.insert a v (m.erase a)

/-- The canonical form: addresses strictly rising and below 256 (20_memory.md R31), no byte equal to what an unlisted
address reads as. -/
abbrev Memory.wf (m : Memory) : Prop :=
  m.Pairwise (fun c d => c.1 < d.1) ∧ ∀ c ∈ m, c.1 < 256 ∧ c.2 ≠ Memory.unlisted

/-- `shadow[a]` (00_scope.md R10). -/
def State.readShadow (s : State) (a : Byte) : Byte := Memory.read s.shadow a.toNat

/-- `shadow[a] <- v` (00_scope.md R10). -/
def State.storeShadow (s : State) (a v : Byte) : State := { s with shadow := Memory.write s.shadow a.toNat v }

/-! ### What the block hands to its collaborators -/

/-- `emit E(args)` (00_scope.md R10). -/
def State.emit (s : State) (e : Event) : State := { s with event := some e, sent := e :: s.sent }

/-- `diag(code, a, v)`: an event only when `HAS_DIAG` (00_scope.md R10, 10_state.md R29). -/
def State.diag (s : State) (code : DiagCode) (a v : Byte) : State :=
  if s.caps.hasDiag then s.emit (.diag code a v) else s

/-- The strobe of a core stack pointer: the core takes it at once and gives no answer (10_state.md R25). -/
def State.coreWrite (s : State) (sp : CoreReg) (v : Byte) : State :=
  match sp with
  | .wst => { s.emit (.coreWrite .wst v) with core := { s.core with wst := v } }
  | .rst => { s.emit (.coreWrite .rst v) with core := { s.core with rst := v } }

/-! ### The access sequencer (43_screen_page.md R97) -/

/-- A console request: hand the byte over and wait for the stream (42_console_page.md R72, R73). -/
def State.requestConsole (s : State) (chan : Chan) (v : Byte) : State :=
  { s.emit (.consoleWrite chan v) with fsm := { s.fsm with phase := .waitCon } }

/-- A surface request: hand the rectangle over and wait for the surface; `pixel` says that a pixel draw asked
(43_screen_page.md R94, R96). -/
def State.requestFill (s : State) (pixel : Bool) (x y w h : Half) (colour : BitVec 2) (fg : Bool) : State :=
  { s.emit (.surfaceFill x y w h colour fg) with fsm := ⟨.waitFill, pixel⟩ }

/-- The pixel auto-increment, each axis on its own, modulo 2^16 (43_screen_page.md R94). -/
def State.autoIncrement (s : State) : State :=
  { s with scr := { s.scr with
      x := if s.scr.autoX then s.scr.x + 1 else s.scr.x
      y := if s.scr.autoY then s.scr.y + 1 else s.scr.y } }

/-- The outstanding access completes: back to `IDLE`, `acc_done` given (40_dispatch.md R58). -/
def State.completeWait (s : State) : State :=
  { s with fsm := { s.fsm with phase := .idle }, accDone := true, accRdata := none }

/-- What an answer in the sampled inputs does in a wait phase, and nothing without one (43_screen_page.md R97): any
console answer completes; a surface answer completes, after the auto-increment when it is Ok and a pixel draw asked. -/
def State.respond (s : State) : State :=
  match s.fsm.phase with
  | .idle => s
  | .waitCon =>
    match s.pins.conRsp with
    | none => s
    | some _ => s.completeWait
  | .waitFill =>
    match s.pins.fillRsp with
    | none => s
    | some ok => if ok && s.fsm.pixel then s.autoIncrement.completeWait else s.completeWait

/-! ### Performing an access (40_dispatch.md R58 to R60) -/

/-- A read completes with its byte and writes no state of the block (40_dispatch.md R60). -/
def State.completeRead (s : State) (b : Byte) : State := { s with accDone := true, accRdata := some b }

/-- A write is complete when the sequencer is in `IDLE`; else its answer completes it later (40_dispatch.md R58). -/
def State.finishWrite (s : State) : State :=
  { s with accDone := s.fsm.phase == .idle, accRdata := none }

/-- A write: the shadow store first, then the row's updates and its collaborator effect, then completion
(40_dispatch.md R59). -/
def State.performWrite (s : State) (a v : Byte) (row : State → State) : State :=
  (row (s.storeShadow a v)).finishWrite

/-- Composition of `scr.x` from its two shadow halves (30_encoding.md R52). -/
def State.composeX (s : State) : State :=
  { s with scr := { s.scr with x := cat16 (s.readShadow 0x28) (s.readShadow 0x29) } }

/-- Composition of `scr.y` from its two shadow halves (30_encoding.md R52). -/
def State.composeY (s : State) : State :=
  { s with scr := { s.scr with y := cat16 (s.readShadow 0x2A) (s.readShadow 0x2B) } }

/-- Composition of `scr.sprite` from its two shadow halves (30_encoding.md R52). -/
def State.composeSprite (s : State) : State :=
  { s with scr := { s.scr with sprite := cat16 (s.readShadow 0x2C) (s.readShadow 0x2D) } }

/-! ### The environment and the access port -/

/-- What the environment presents at this step: the head of the script, else a free value (log entry 2). -/
def State.nextSample (s : State) : Sample :=
  match s.script with
  | [] => Config.drawSample s.samples
  | x :: _ => x

/-- The inputs are sampled anew (00_scope.md R8), the core's own moves of its pointers land (10_state.md R20), and
the outputs of the step before are withdrawn. -/
def State.takeSample (s : State) : State :=
  { s with
    pins := s.nextSample.pins
    core := ⟨s.nextSample.coreWst.getD s.core.wst, s.nextSample.coreRst.getD s.core.rst⟩
    script := s.script.tail
    samples := s.samples + 1
    accDone := false
    accRdata := none
    event := none }

/-- The access the block accepts: the one presented, in `IDLE` only (40_dispatch.md R58). -/
def State.presented (s : State) : Option Txn :=
  match s.fsm.phase with
  | .idle => s.accesses.head?
  | .waitCon => none
  | .waitFill => none

/-- The accepted access leaves the queue. -/
def State.accept (s : State) : State := { s with accesses := s.accesses.tail }

/-- The access port presents a transaction word next, to a block that can accept it. -/
def State.present (s : State) (t : Txn) : State :=
  { s with accesses := t :: s.accesses.tail, fsm := { s.fsm with phase := .idle } }

end Sys2Proof.Machine
end

