-- ==== Sys2Proof/Machine/Clock.lean ====
section
/-! DEFINITION. The clock page (45_clock_page.md): the clock inputs as sampled, forwarded unchanged, and the reserved
daylight-savings port. -/

namespace Sys2Proof.Machine

/-- `RD_RTC_YEAR_HI` (45_clock_page.md R107). -/
def execRdRtcYearHi (s : State) : Outcome := .next (s.completeRead (hi8 s.pins.rtc.year))

/-- `RD_RTC_YEAR_LO` (45_clock_page.md R108). -/
def execRdRtcYearLo (s : State) : Outcome := .next (s.completeRead (lo8 s.pins.rtc.year))

/-- `RD_RTC_MONTH` (45_clock_page.md R109): zero-based. -/
def execRdRtcMonth (s : State) : Outcome := .next (s.completeRead s.pins.rtc.month0)

/-- `RD_RTC_DAY` (45_clock_page.md R110): zero-based. -/
def execRdRtcDay (s : State) : Outcome := .next (s.completeRead s.pins.rtc.day0)

/-- `RD_RTC_HOUR` (45_clock_page.md R111). -/
def execRdRtcHour (s : State) : Outcome := .next (s.completeRead s.pins.rtc.hour)

/-- `RD_RTC_MINUTE` (45_clock_page.md R112). -/
def execRdRtcMinute (s : State) : Outcome := .next (s.completeRead s.pins.rtc.minute)

/-- `RD_RTC_SECOND` (45_clock_page.md R113). -/
def execRdRtcSecond (s : State) : Outcome := .next (s.completeRead s.pins.rtc.second)

/-- `RD_RTC_WEEKDAY` (45_clock_page.md R114). -/
def execRdRtcWeekday (s : State) : Outcome := .next (s.completeRead s.pins.rtc.weekday)

/-- `RD_RTC_YDAY_HI` (45_clock_page.md R115; the byte order is the spec's decision D16). -/
def execRdRtcYdayHi (s : State) : Outcome := .next (s.completeRead (hi8 s.pins.rtc.yday))

/-- `RD_RTC_YDAY_LO` (45_clock_page.md R116; the byte order is the spec's decision D16). -/
def execRdRtcYdayLo (s : State) : Outcome := .next (s.completeRead (lo8 s.pins.rtc.yday))

/-- `RD_RTC_DST` (45_clock_page.md R117): the shadow byte, with a diagnostic; the only read that emits an event. -/
def execRdRtcDst (s : State) : Outcome :=
  .next ((s.diag .rtcDstRead 0xCA (s.readShadow 0xCA)).completeRead (s.readShadow 0xCA))

end Sys2Proof.Machine
end

