-- ==== Sys2Proof/Machine/Console.lean ====
section
/-! DEFINITION. The console page (42_console_page.md). The answer may come with the request or at a later step
(log entry 7). -/

namespace Sys2Proof.Machine

/-- `WR_CON_OUT` (42_console_page.md R72): forward the byte once to the output stream and wait for it; its answer's
value is ignored. -/
def execWrConOut (v : Byte) (s : State) : Outcome :=
  .next (s.performWrite 0x18 v (fun t => (t.requestConsole .out v).respond))

/-- `WR_CON_ERR` (42_console_page.md R73): forward the byte once to the error stream and wait for it; its answer's
value is ignored. -/
def execWrConErr (v : Byte) (s : State) : Outcome :=
  .next (s.performWrite 0x19 v (fun t => (t.requestConsole .err v).respond))

end Sys2Proof.Machine
end

