-- ==== Sys2Proof/Machine/Flags.lean ====
section
/-! DEFINITION. The Booleans the block computes. It has no condition codes (10_state.md R22): only the halt output
and the pixel bounds check. -/

namespace Sys2Proof.Machine

/-- `halt = (shadow[0x0F] != 0x00)` (10_state.md R18). The block itself does not look at it (60_exceptions.md R137). -/
def State.halt (s : State) : Bool := s.readShadow 0x0F != 0x00

/-- `in_bounds = (scr.x < surf_w) and (scr.y < surf_h)`, unsigned (43_screen_page.md R93). -/
def State.inBounds (s : State) : Bool :=
  s.scr.x.ult s.pins.surfW && s.scr.y.ult s.pins.surfH

end Sys2Proof.Machine
end

