-- ==== Sys2Proof/Machine/Screen.lean ====
section
/-! DEFINITION. The screen page (43_screen_page.md): geometry and register reads, the auto byte, composition, and the
draw port. -/

namespace Sys2Proof.Machine

/-- `RD_SCR_WIDTH_HI` (43_screen_page.md R75): the live width. -/
def execRdScrWidthHi (s : State) : Outcome := .next (s.completeRead (hi8 s.pins.surfW))

/-- `RD_SCR_WIDTH_LO` (43_screen_page.md R76): the live width. -/
def execRdScrWidthLo (s : State) : Outcome := .next (s.completeRead (lo8 s.pins.surfW))

/-- `RD_SCR_HEIGHT_HI` (43_screen_page.md R77): the live height. -/
def execRdScrHeightHi (s : State) : Outcome := .next (s.completeRead (hi8 s.pins.surfH))

/-- `RD_SCR_HEIGHT_LO` (43_screen_page.md R78): the live height. -/
def execRdScrHeightLo (s : State) : Outcome := .next (s.completeRead (lo8 s.pins.surfH))

/-- `RD_SCR_X_HI` (43_screen_page.md R79): the register, not the shadow byte. -/
def execRdScrXHi (s : State) : Outcome := .next (s.completeRead (hi8 s.scr.x))

/-- `RD_SCR_X_LO` (43_screen_page.md R80): the register, not the shadow byte. -/
def execRdScrXLo (s : State) : Outcome := .next (s.completeRead (lo8 s.scr.x))

/-- `RD_SCR_Y_HI` (43_screen_page.md R81): the register, not the shadow byte. -/
def execRdScrYHi (s : State) : Outcome := .next (s.completeRead (hi8 s.scr.y))

/-- `RD_SCR_Y_LO` (43_screen_page.md R82): the register, not the shadow byte. -/
def execRdScrYLo (s : State) : Outcome := .next (s.completeRead (lo8 s.scr.y))

/-- `RD_SCR_SPR_HI` (43_screen_page.md R83). -/
def execRdScrSprHi (s : State) : Outcome := .next (s.completeRead (hi8 s.scr.sprite))

/-- `RD_SCR_SPR_LO` (43_screen_page.md R84). -/
def execRdScrSprLo (s : State) : Outcome := .next (s.completeRead (lo8 s.scr.sprite))

/-- `WR_SCR_AUTO` (43_screen_page.md R85): all four fields are overwritten at every write. -/
def execWrScrAuto (v : Byte) (s : State) : Outcome :=
  .next (s.performWrite 0x26 v (fun t =>
    { t with scr := { t.scr with
        autoX := autoByteX v
        autoY := autoByteY v
        autoSprite := autoByteSprite v
        length := autoByteLength v } }))

/-- `WR_SCR_X_HI` (43_screen_page.md R86): the other half comes from the shadow byte, not from the register. -/
def execWrScrXHi (v : Byte) (s : State) : Outcome := .next (s.performWrite 0x28 v (fun t => t.composeX))

/-- `WR_SCR_X_LO` (43_screen_page.md R87): the other half comes from the shadow byte, not from the register. -/
def execWrScrXLo (v : Byte) (s : State) : Outcome := .next (s.performWrite 0x29 v (fun t => t.composeX))

/-- `WR_SCR_Y_HI` (43_screen_page.md R88): the other half comes from the shadow byte, not from the register. -/
def execWrScrYHi (v : Byte) (s : State) : Outcome := .next (s.performWrite 0x2A v (fun t => t.composeY))

/-- `WR_SCR_Y_LO` (43_screen_page.md R89): the other half comes from the shadow byte, not from the register. -/
def execWrScrYLo (v : Byte) (s : State) : Outcome := .next (s.performWrite 0x2B v (fun t => t.composeY))

/-- `WR_SCR_SPR_HI` (43_screen_page.md R90). -/
def execWrScrSprHi (v : Byte) (s : State) : Outcome := .next (s.performWrite 0x2C v (fun t => t.composeSprite))

/-- `WR_SCR_SPR_LO` (43_screen_page.md R91). -/
def execWrScrSprLo (v : Byte) (s : State) : Outcome := .next (s.performWrite 0x2D v (fun t => t.composeSprite))

/-- `WR_SCR_DRAW_PIXEL` (43_screen_page.md R94): a 1 by 1 fill at the cursor when it is in bounds, with the
auto-increment on Ok; outside, no request and no increment. The flip bits have no effect. -/
def execWrScrDrawPixel (v : Byte) (s : State) : Outcome :=
  .next (s.performWrite 0x2E v (fun t =>
    if t.inBounds then
      (t.requestFill true t.scr.x t.scr.y 1 1 (drawColour v) (drawFg v)).respond
    else t))

/-- `WR_SCR_DRAW_FILL` (43_screen_page.md R95, R96): the rectangle anchored at the cursor, requested whatever its
size; the cursor does not move. -/
def execWrScrDrawFill (v : Byte) (s : State) : Outcome :=
  .next (s.performWrite 0x2E v (fun t =>
    (t.requestFill false
      (fillSpan (drawFlipX v) t.scr.x t.pins.surfW).1 (fillSpan (drawFlipY v) t.scr.y t.pins.surfH).1
      (fillSpan (drawFlipX v) t.scr.x t.pins.surfW).2 (fillSpan (drawFlipY v) t.scr.y t.pins.surfH).2
      (drawColour v) (drawFg v)).respond))

end Sys2Proof.Machine
end

