-- ==== Sys2Proof/Machine/Shadow.lean ====
section
/-! DEFINITION. The two default rows (40_dispatch.md R62, R63). -/

namespace Sys2Proof.Machine

/-- `RD_SHADOW` (40_dispatch.md R62): `rdata <- shadow[A]`. -/
def execRdShadow (a : Byte) (s : State) : Outcome := .next (s.completeRead (s.readShadow a))

/-- `WR_SHADOW` (40_dispatch.md R63): the shadow store and nothing beyond it. -/
def execWrShadow (a v : Byte) (s : State) : Outcome := .next (s.performWrite a v (fun t => t))

end Sys2Proof.Machine
end

