-- ==== Sys2Proof/Machine/Stub.lean ====
section
/-! DEFINITION. The audio and file stub pages (44_stub_pages.md): the shadow store and one diagnostic per write, for
every byte (the spec's decision D14). -/

namespace Sys2Proof.Machine

/-- The shared write of a stub page. -/
def stubWrite (code : DiagCode) (a v : Byte) (s : State) : State := s.performWrite a v (fun t => t.diag code a v)

/-- `WR_AUDIO_P3` (44_stub_pages.md R101). -/
def execWrAudioP3 (port : BitVec 4) (v : Byte) (s : State) : Outcome :=
  .next (stubWrite .audioWrite (pageAddr 0x3 port) v s)

/-- `WR_AUDIO_P4` (44_stub_pages.md R102). -/
def execWrAudioP4 (port : BitVec 4) (v : Byte) (s : State) : Outcome :=
  .next (stubWrite .audioWrite (pageAddr 0x4 port) v s)

/-- `WR_AUDIO_P5` (44_stub_pages.md R103). -/
def execWrAudioP5 (port : BitVec 4) (v : Byte) (s : State) : Outcome :=
  .next (stubWrite .audioWrite (pageAddr 0x5 port) v s)

/-- `WR_AUDIO_P6` (44_stub_pages.md R104). -/
def execWrAudioP6 (port : BitVec 4) (v : Byte) (s : State) : Outcome :=
  .next (stubWrite .audioWrite (pageAddr 0x6 port) v s)

/-- `WR_FILE_PA` (44_stub_pages.md R105). -/
def execWrFilePa (port : BitVec 4) (v : Byte) (s : State) : Outcome :=
  .next (stubWrite .fileWrite (pageAddr 0xA port) v s)

/-- `WR_FILE_PB` (44_stub_pages.md R106). -/
def execWrFilePb (port : BitVec 4) (v : Byte) (s : State) : Outcome :=
  .next (stubWrite .fileWrite (pageAddr 0xB port) v s)

end Sys2Proof.Machine
end

