-- ==== Sys2Proof/Machine/System.lean ====
section
/-! DEFINITION. The system page (41_system_page.md). -/

namespace Sys2Proof.Machine

/-- `RD_SYS_WST` (41_system_page.md R66): the core's pointer, not the shadow byte. -/
def execRdSysWst (s : State) : Outcome := .next (s.completeRead s.core.wst)

/-- `RD_SYS_RST` (41_system_page.md R67): the core's pointer, not the shadow byte. -/
def execRdSysRst (s : State) : Outcome := .next (s.completeRead s.core.rst)

/-- `WR_SYS_EXPANSION` (41_system_page.md R68): a diagnostic for a nonzero byte, no expansion operation. -/
def execWrSysExpansion (v : Byte) (s : State) : Outcome :=
  .next (s.performWrite 0x03 v (fun t => if v = 0x00 then t else t.diag .expansion 0x03 v))

/-- `WR_SYS_WST` (41_system_page.md R69): `core.wst <- v`, unchecked. -/
def execWrSysWst (v : Byte) (s : State) : Outcome := .next (s.performWrite 0x04 v (fun t => t.coreWrite .wst v))

/-- `WR_SYS_RST` (41_system_page.md R70): `core.rst <- v`, unchecked. -/
def execWrSysRst (v : Byte) (s : State) : Outcome := .next (s.performWrite 0x05 v (fun t => t.coreWrite .rst v))

/-- `WR_SYS_DEBUG` (41_system_page.md R71): a diagnostic for a nonzero byte. -/
def execWrSysDebug (v : Byte) (s : State) : Outcome :=
  .next (s.performWrite 0x0E v (fun t => if v = 0x00 then t else t.diag .stackDump 0x0E v))

end Sys2Proof.Machine
end

