-- ==== Sys2Proof/Machine/Dispatch.lean ====
section
/-! DEFINITION. The meaning of each access class, one arm per constructor of Instr. -/

namespace Sys2Proof.Machine

/-- Performing an accepted access (40_dispatch.md R58): the block is in IDLE and the access was decoded under the
block's own straps; step sees to both (DEDUCED, log entry 10). -/
def exec (i : Instr) (s : State) : Host.Outcome State Fault Refusal :=
  match i with
  | .rdSysWst => Sys2Proof.Machine.execRdSysWst s
  | .rdSysRst => Sys2Proof.Machine.execRdSysRst s
  | .rdScrWidthHi => Sys2Proof.Machine.execRdScrWidthHi s
  | .rdScrWidthLo => Sys2Proof.Machine.execRdScrWidthLo s
  | .rdScrHeightHi => Sys2Proof.Machine.execRdScrHeightHi s
  | .rdScrHeightLo => Sys2Proof.Machine.execRdScrHeightLo s
  | .rdScrXHi => Sys2Proof.Machine.execRdScrXHi s
  | .rdScrXLo => Sys2Proof.Machine.execRdScrXLo s
  | .rdScrYHi => Sys2Proof.Machine.execRdScrYHi s
  | .rdScrYLo => Sys2Proof.Machine.execRdScrYLo s
  | .rdScrSprHi => Sys2Proof.Machine.execRdScrSprHi s
  | .rdScrSprLo => Sys2Proof.Machine.execRdScrSprLo s
  | .rdRtcYearHi => Sys2Proof.Machine.execRdRtcYearHi s
  | .rdRtcYearLo => Sys2Proof.Machine.execRdRtcYearLo s
  | .rdRtcMonth => Sys2Proof.Machine.execRdRtcMonth s
  | .rdRtcDay => Sys2Proof.Machine.execRdRtcDay s
  | .rdRtcHour => Sys2Proof.Machine.execRdRtcHour s
  | .rdRtcMinute => Sys2Proof.Machine.execRdRtcMinute s
  | .rdRtcSecond => Sys2Proof.Machine.execRdRtcSecond s
  | .rdRtcWeekday => Sys2Proof.Machine.execRdRtcWeekday s
  | .rdRtcYdayHi => Sys2Proof.Machine.execRdRtcYdayHi s
  | .rdRtcYdayLo => Sys2Proof.Machine.execRdRtcYdayLo s
  | .rdRtcDst => Sys2Proof.Machine.execRdRtcDst s
  | .rdShadow a => Sys2Proof.Machine.execRdShadow a s
  | .wrSysExpansion v => Sys2Proof.Machine.execWrSysExpansion v s
  | .wrSysWst v => Sys2Proof.Machine.execWrSysWst v s
  | .wrSysRst v => Sys2Proof.Machine.execWrSysRst v s
  | .wrSysDebug v => Sys2Proof.Machine.execWrSysDebug v s
  | .wrConOut v => Sys2Proof.Machine.execWrConOut v s
  | .wrConErr v => Sys2Proof.Machine.execWrConErr v s
  | .wrScrAuto v => Sys2Proof.Machine.execWrScrAuto v s
  | .wrScrXHi v => Sys2Proof.Machine.execWrScrXHi v s
  | .wrScrXLo v => Sys2Proof.Machine.execWrScrXLo v s
  | .wrScrYHi v => Sys2Proof.Machine.execWrScrYHi v s
  | .wrScrYLo v => Sys2Proof.Machine.execWrScrYLo v s
  | .wrScrSprHi v => Sys2Proof.Machine.execWrScrSprHi v s
  | .wrScrSprLo v => Sys2Proof.Machine.execWrScrSprLo v s
  | .wrScrDrawPixel v => Sys2Proof.Machine.execWrScrDrawPixel v s
  | .wrScrDrawFill v => Sys2Proof.Machine.execWrScrDrawFill v s
  | .wrAudioP3 port v => Sys2Proof.Machine.execWrAudioP3 port v s
  | .wrAudioP4 port v => Sys2Proof.Machine.execWrAudioP4 port v s
  | .wrAudioP5 port v => Sys2Proof.Machine.execWrAudioP5 port v s
  | .wrAudioP6 port v => Sys2Proof.Machine.execWrAudioP6 port v s
  | .wrFilePa port v => Sys2Proof.Machine.execWrFilePa port v s
  | .wrFilePb port v => Sys2Proof.Machine.execWrFilePb port v s
  | .wrShadow a v => Sys2Proof.Machine.execWrShadow a v s

end Sys2Proof.Machine
end

