-- ==== Sys2Proof/Machine/Step.lean ====
section
/-! DEFINITION. One step of the machine (40_dispatch.md R58, R65; 43_screen_page.md R97): sample the inputs; in `IDLE`
accept the presented access and perform it, its answer included when the sample brings one; in a wait phase take the
answer, if there is one; else nothing (DEDUCED, log entries 7, 8). -/

namespace Sys2Proof.Machine

/-- One step. -/
def step (s : State) : Host.Outcome State Fault Refusal :=
  match s.takeSample.presented with
  | none => .next s.takeSample.respond
  | some t =>
    match decode s.caps t with
    | none => .refused .noRow
    | some i => exec i s.takeSample.accept

/-- `s` with the access whose transaction word is `w` presented next at the access port, in the phase that accepts it
(log entry 1). `nbits` is how many bits of `w` the table gives; the bits above are 0. -/
def State.withFetchWord (s : State) (nbits w : Nat) : State := s.present (BitVec.ofNat 17 (w % 2 ^ nbits))

end Sys2Proof.Machine
end

