-- ==== Sys2Proof/Machine/Palette.lean ====
section
/-! DEFINITION. The colour palette codec (46_palette_codec.md): combinational outputs of `shadow[0x08..0x0C]`, with
no state of their own (R125). -/

namespace Sys2Proof.Machine

/-- `(bn << 1) | (bm >> 1)` at 16 bits, the bytes zero-extended first (46_palette_codec.md R119, R120, R122). -/
def paletteEven (bn bm : Byte) : Half := (bn.setWidth 16 <<< 1) ||| (bm.setWidth 16 >>> 1)

/-- `((bn & 0x1) << 2) | bm` at 16 bits, the bytes zero-extended first (46_palette_codec.md R119, R121, R123). -/
def paletteOdd (bn bm : Byte) : Half := ((bn.setWidth 16 &&& 0x1) <<< 2) ||| bm.setWidth 16

/-- `palette0` (46_palette_codec.md R120). -/
def State.palette0 (s : State) : Half := paletteEven (s.readShadow 0x08) (s.readShadow 0x09)

/-- `palette1` (46_palette_codec.md R121). -/
def State.palette1 (s : State) : Half := paletteOdd (s.readShadow 0x09) (s.readShadow 0x0A)

/-- `palette2` (46_palette_codec.md R122). -/
def State.palette2 (s : State) : Half := paletteEven (s.readShadow 0x0A) (s.readShadow 0x0B)

/-- `palette3` (46_palette_codec.md R123). -/
def State.palette3 (s : State) : Half := paletteOdd (s.readShadow 0x0B) (s.readShadow 0x0C)

end Sys2Proof.Machine
end

