-- ==== Sys2Proof/Machine/Signals.lean ====
section
/-! DEFINITION. The output signals of the interface (10_state.md R25 to R27, R29, R30), read off the state: a request
or strobe is asserted in the step that hands its event over; the payload of a port is given when it is asserted
(DESIGN CHOICE, log entry 14). -/

namespace Sys2Proof.Machine

/-- `con_chan`: 0 = output stream, 1 = error stream (10_state.md R27). -/
def Chan.signal : Chan → BitVec 1
  | .out => 0
  | .err => 1

/-- `diag_code` (10_state.md R29); codes 5 to 7 are never emitted. -/
def DiagCode.signal : DiagCode → BitVec 3
  | .expansion => 0
  | .stackDump => 1
  | .audioWrite => 2
  | .fileWrite => 3
  | .rtcDstRead => 4

/-- `core_wst_we` (10_state.md R25). -/
def State.coreWstWe (s : State) : Bool :=
  match s.event with
  | some (.coreWrite .wst _) => true
  | _ => false

/-- `core_rst_we` (10_state.md R25). -/
def State.coreRstWe (s : State) : Bool :=
  match s.event with
  | some (.coreWrite .rst _) => true
  | _ => false

/-- `core_sp_wdata`, while a strobe is asserted (10_state.md R25). -/
def State.coreSpWdata (s : State) : Option Byte :=
  match s.event with
  | some (.coreWrite _ v) => some v
  | _ => none

/-- The payload of the surface port: `fill_x`, `fill_y`, `fill_w`, `fill_h`, `fill_colour`, `fill_fg` (10_state.md
R26). -/
structure FillPort where
  x : Half
  y : Half
  w : Half
  h : Half
  colour : BitVec 2
  fg : Bool
deriving DecidableEq, Repr

/-- The surface port; present exactly while `fill_req` is asserted (10_state.md R26). -/
def State.fillPort (s : State) : Option FillPort :=
  match s.event with
  | some (.surfaceFill x y w h colour fg) => some ⟨x, y, w, h, colour, fg⟩
  | _ => none

/-- `fill_req` (10_state.md R26). -/
def State.fillReq (s : State) : Bool := s.fillPort.isSome

/-- `con_chan` and `con_byte`; present exactly while `con_req` is asserted (10_state.md R27). -/
def State.conPort (s : State) : Option (BitVec 1 × Byte) :=
  match s.event with
  | some (.consoleWrite chan v) => some (chan.signal, v)
  | _ => none

/-- `con_req` (10_state.md R27). -/
def State.conReq (s : State) : Bool := s.conPort.isSome

/-- `diag_code`, `diag_addr` and `diag_data`; present exactly while `diag_valid` is asserted (10_state.md R29). -/
def State.diagPort (s : State) : Option (BitVec 3 × Byte × Byte) :=
  match s.event with
  | some (.diag code a v) => some (code.signal, a, v)
  | _ => none

/-- `diag_valid` (10_state.md R29). -/
def State.diagValid (s : State) : Bool := s.diagPort.isSome

/-- `scr_length` (10_state.md R30). -/
def State.scrLength (s : State) : BitVec 4 := s.scr.length

/-- `scr_auto_sprite` (10_state.md R30). -/
def State.scrAutoSprite (s : State) : Bool := s.scr.autoSprite

end Sys2Proof.Machine
end

