-- ==== Sys2Proof/Safety.lean ====
section
/-! DEFINITION. The terms the claims are stated in: what an access leaves unchanged, what it hands over, the
invariants of the machine, and runs of accesses. -/

namespace Sys2Proof.Machine

/-! ### Frames -/

/-- The straps, the sampled inputs and what the environment still has to present are unchanged. -/
def State.SameEnvironment (s t : State) : Prop :=
  t.caps = s.caps ∧ t.pins = s.pins ∧ t.accesses = s.accesses ∧ t.script = s.script ∧ t.samples = s.samples

/-- Nothing was handed to a collaborator. -/
def State.NothingSent (s t : State) : Prop := t.event = s.event ∧ t.sent = s.sent

/-- Exactly the event `e` was handed to a collaborator. -/
def State.Sends (s t : State) (e : Event) : Prop := t.event = some e ∧ t.sent = e :: s.sent

/-- A diagnostic is handed over when `HAS_DIAG` and nothing else is (10_state.md R29). -/
def State.SendsDiag (s t : State) (code : DiagCode) (a v : Byte) : Prop :=
  if s.caps.hasDiag then State.Sends s t (.diag code a v) else State.NothingSent s t

/-- A read has completed with the byte `b` and changed no state of the block, nor the core's pointers
(40_dispatch.md R60). -/
def State.ReadGives (s t : State) (b : Byte) : Prop :=
  t.accDone = true ∧ t.accRdata = some b ∧ t.shadow = s.shadow ∧ (∀ a, t.readShadow a = s.readShadow a) ∧
  t.scr = s.scr ∧ t.fsm = s.fsm ∧ t.core = s.core ∧ State.SameEnvironment s t

/-- The shadow byte at `a` holds `v`, and every other address reads as before (10_state.md R14). -/
def State.StoresByte (s t : State) (a v : Byte) : Prop :=
  ∀ b, t.readShadow b = if b = a then v else s.readShadow b

/-- A write has completed (10_state.md R24). -/
def State.WriteCompletes (t : State) : Prop := t.fsm.phase = .idle ∧ t.accDone = true ∧ t.accRdata = none

/-- A row of the opcode table is taken: every word that matches it, in a build that has the capability it needs,
decodes to its instruction (30_encoding.md R47, R48). -/
def RowTakes (value mask : Txn) (needs : Caps → Bool) (build : Txn → Instr) : Prop :=
  ∀ c t, t &&& mask = value → needs c = true → decode c t = some (build t)

/-- No capability is needed. -/
def anyBuild (_ : Caps) : Bool := true

/-! ### Invariants -/

/-- With a screen, `scr.sprite` and the auto fields are what their shadow bytes say (10_state.md R17,
70_reset_and_hazards.md R140). -/
def State.ScreenFollowsShadow (s : State) : Prop :=
  s.caps.hasScreen = true →
    s.scr.sprite = cat16 (s.readShadow 0x2C) (s.readShadow 0x2D) ∧
    s.scr.autoX = (s.readShadow 0x26).getLsbD 0 ∧ s.scr.autoY = (s.readShadow 0x26).getLsbD 1 ∧
    s.scr.autoSprite = (s.readShadow 0x26).getLsbD 2 ∧ s.scr.length = (s.readShadow 0x26).extractLsb' 4 4

/-- Without a screen, the screen registers hold their reset values (43_screen_page.md R99). -/
def State.ScreenAbsentAtReset (s : State) : Prop :=
  s.caps.hasScreen = false → s.scr = ⟨0, 0, 0, false, false, false, 0⟩

/-- A wait phase is entered only in a build that has the collaborator (30_encoding.md R48, 43_screen_page.md R97). -/
def State.WaitPhaseLegal (s : State) : Prop :=
  (s.fsm.phase = .waitCon → s.caps.hasConsole = true) ∧ (s.fsm.phase = .waitFill → s.caps.hasScreen = true)

/-- While a pixel draw waits, neither cursor register is at the top of its range, so the increment cannot wrap
(43_screen_page.md R94). -/
def State.PixelCannotWrap (s : State) : Prop :=
  s.fsm.phase = .waitFill → s.fsm.pixel = true → s.scr.x.toNat < 0xFFFF ∧ s.scr.y.toNat < 0xFFFF

/-- Every invariant together. -/
def State.Inv (s : State) : Prop :=
  Memory.wf s.shadow ∧ s.ScreenFollowsShadow ∧ s.ScreenAbsentAtReset ∧ s.WaitPhaseLegal ∧ s.PixelCannotWrap

/-! ### Runs -/

/-- What the core's own moves of its pointers, as some samples present them in order, make of the pointers
(10_state.md R20). A sample that moves neither pointer leaves both as they are. -/
def coreMoves (p : CorePointers) (xs : List Sample) : CorePointers :=
  xs.foldl (fun q x => ⟨x.coreWst.getD q.wst, x.coreRst.getD q.rst⟩) p

/-- What the last write to `a` among some accesses, taken in order, leaves there: its data, else `init`. -/
def lastWriteTo (a init : Byte) (ts : List Txn) : Byte :=
  ts.foldl (fun b t => if t.isWrite && t.addr == a then t.data else b) init

/-- The same draw byte written `n` times to the draw port in pixel mode. -/
def drawPixels (v : Byte) : Nat → State → Outcome
  | 0, s => .next s
  | n + 1, s =>
    match exec (.wrScrDrawPixel v) s with
    | .next t => drawPixels v n t
    | .fault r => .fault r
    | .refused r => .refused r

/-- A state whose sampled inputs hold another surface answer. -/
def State.withFillRsp (s : State) (r : Option Bool) : State := { s with pins := { s.pins with fillRsp := r } }

/-- A state whose sampled inputs hold another console answer. -/
def State.withConRsp (s : State) (r : Option Bool) : State := { s with pins := { s.pins with conRsp := r } }

/-- Two states that agree in everything but the shadow byte at `a` and the byte a read returned. -/
def State.AgreeButByte (a : Byte) (s t : State) : Prop :=
  (∀ b, b ≠ a → t.readShadow b = s.readShadow b) ∧ t.scr = s.scr ∧ t.fsm = s.fsm ∧ t.core = s.core ∧
  State.SameEnvironment s t ∧ t.accDone = s.accDone ∧ t.event = s.event ∧ t.sent = s.sent

/-- The next access to be accepted is not a read of `a`. -/
def State.NotReading (s : State) (a : Byte) : Prop :=
  ∀ t, s.presented = some t → t.isWrite = true ∨ t.addr ≠ a

end Sys2Proof.Machine
end

