-- ==== Sys2Proof/Certificates/Slice0/Obligations.lean ====
section
/-! DEFINITION. The statements for the provers. Each docstring names the rule or the section of spec/ it formalises. -/

open Sys2Proof Sys2Proof.Machine

/-! ### Decode and encode -/

/-- 30_encoding.md sections 1 to 4: every well-formed instruction's word decodes to it, with every operand. -/
def Obligations.DecodeOfEncode : Prop :=
  ∀ (c : Caps) (i : Instr), i.wellFormed c = true → decode c (encode i) = some i

/-- 30_encoding.md R47 and R45: every transaction word selects one well-formed operation, and encoding it gives the
canonical form of the word (D of a read is 0x00, the spec's decision D21). -/
def Obligations.EncodeOfDecode : Prop :=
  ∀ (c : Caps) (t : Txn), ∃ i, decode c t = some i ∧ i.wellFormed c = true ∧ encode i = t.canonical

/-- 30_encoding.md R47: the match sets of the rows before the default row of each direction are pairwise disjoint. -/
def Obligations.SpecificRowsDisjoint : Prop :=
  ∀ t : Txn, (rows.filter (fun r => r.mask != 0x10000 && (t &&& r.mask) == r.value)).length ≤ 1

/-- 30_encoding.md R45, R55: D of a read is ignored by decode (the spec's decision D21). -/
def Obligations.ReadDataIgnoredByDecode : Prop :=
  ∀ (c : Caps) (t : Txn) (d : Byte), t.isWrite = false → decode c (Txn.pack false t.addr d) = decode c t

/-- 30_encoding.md section 2: while a capability is absent, its page falls through to the default rows. -/
def Obligations.AbsentCapabilityIsShadowOnly : Prop :=
  ∀ (c : Caps) (t : Txn),
    ((pg t.addr = 0x10 ∧ c.hasConsole = false) ∨ (pg t.addr = 0x20 ∧ c.hasScreen = false) ∨
      (pg t.addr = 0xC0 ∧ c.hasClock = false)) →
    decode c t = some (if t.isWrite then .wrShadow t.addr t.data else .rdShadow t.addr)

/-- 95_test_vectors.md section 2.1: some words of its decode table. -/
def Obligations.SpecWordsDecode : Prop :=
  decode ⟨true, true, true, true⟩ 0x004FF = some .rdSysWst ∧
  decode ⟨true, true, true, true⟩ 0x02E00 = some (.rdShadow 0x2E) ∧
  decode ⟨true, true, true, true⟩ 0x12E7F = some (.wrScrDrawPixel 0x7F) ∧
  decode ⟨true, true, true, true⟩ 0x12E80 = some (.wrScrDrawFill 0x80) ∧
  decode ⟨true, false, true, true⟩ 0x12E00 = some (.wrShadow 0x2E 0x00) ∧
  decode ⟨true, true, false, true⟩ 0x0C000 = some (.rdShadow 0xC0) ∧
  decode ⟨true, true, true, true⟩ 0x13F80 = some (.wrAudioP3 0xF 0x80) ∧
  decode ⟨true, true, true, true⟩ 0x17011 = some (.wrShadow 0x70 0x11) ∧
  decode ⟨true, true, true, true⟩ 0x1A800 = some (.wrFilePa 0x8 0x00)

/-! ### The step -/

/-- 40_dispatch.md R58, R65: in IDLE with a presented access that decodes to `i`, the step is `exec i` at the state
where this step's inputs are sampled and the access has left the queue; and what that state is. The way inputs
arrive is the model's choice (log entries 1, 2, 12). -/
def Obligations.StepRunsDecodedAccess : Prop :=
  ∀ (s : State) (t : Txn) (i : Instr),
    s.fsm.phase = .idle → s.accesses.head? = some t → decode s.caps t = some i →
    step s = exec i s.takeSample.accept ∧
    s.takeSample.accept.accesses = s.accesses.tail ∧ s.takeSample.accept.pins = s.nextSample.pins ∧
    s.takeSample.accept.core.wst = s.nextSample.coreWst.getD s.core.wst ∧
    s.takeSample.accept.core.rst = s.nextSample.coreRst.getD s.core.rst ∧
    s.takeSample.accept.caps = s.caps ∧ s.takeSample.accept.shadow = s.shadow ∧ s.takeSample.accept.scr = s.scr ∧
    s.takeSample.accept.fsm = s.fsm ∧ s.takeSample.accept.sent = s.sent ∧ s.takeSample.accept.event = none ∧
    s.takeSample.accept.accDone = false ∧ s.takeSample.accept.accRdata = none ∧
    s.takeSample.accept.script = s.script.tail ∧ s.takeSample.accept.samples = s.samples + 1

/-- 43_screen_page.md R97, its rows for the answers, and R64: a console answer of either value completes the access; a
surface answer completes it, and when it is Ok to a pixel draw each enabled cursor register has stepped by one. Nothing
else of the block moves, and the core's pointers are what the core's own moves make of them. The phases are the spec's
decision D1, the gate on Ok its decision D10; where the core's own moves land is log entry 12. -/
def Obligations.AnswerCompletesTheWait : Prop :=
  ∀ (s : State),
    (s.fsm.phase = .waitCon → s.nextSample.pins.conRsp ≠ none →
      ∃ u, step s = .next u ∧ u.fsm = ⟨.idle, s.fsm.pixel⟩ ∧ u.accDone = true ∧ u.accRdata = none ∧ u.scr = s.scr ∧
        u.shadow = s.shadow ∧ u.accesses = s.accesses ∧ u.event = none ∧ u.sent = s.sent ∧ u.caps = s.caps ∧
        u.core = ⟨s.nextSample.coreWst.getD s.core.wst, s.nextSample.coreRst.getD s.core.rst⟩) ∧
    (∀ ok, s.fsm.phase = .waitFill → s.nextSample.pins.fillRsp = some ok →
      ∃ u, step s = .next u ∧ u.fsm = ⟨.idle, s.fsm.pixel⟩ ∧ u.accDone = true ∧ u.accRdata = none ∧
        u.scr = { s.scr with
          x := if ok = true ∧ s.fsm.pixel = true ∧ s.scr.autoX = true then s.scr.x + 1 else s.scr.x
          y := if ok = true ∧ s.fsm.pixel = true ∧ s.scr.autoY = true then s.scr.y + 1 else s.scr.y } ∧
        u.shadow = s.shadow ∧ u.accesses = s.accesses ∧ u.event = none ∧ u.sent = s.sent ∧ u.caps = s.caps ∧
        u.core = ⟨s.nextSample.coreWst.getD s.core.wst, s.nextSample.coreRst.getD s.core.rst⟩)

/-- 60_exceptions.md R138: as long as the collaborator gives no answer, over any number of steps, the block stays in
its wait phase, accepts no further access, hands nothing over and raises nothing. The samples are the model's choice
(log entry 2), a step without an answer being a next state its reading (log entry 8); so are the clauses for the core's
pointers, which are what the core's own moves make of them, unchanged over samples that move neither (log entry 12).
The steps are those that the script covers: past its end a sample is a free draw, which may bring an answer, and the
statement leaves such steps out. Since the script is any list, every finite length of a hang is covered. -/
def Obligations.NoAnswerIsAHang : Prop :=
  ∀ (k : Nat) (s : State), k ≤ s.script.length →
    ((s.fsm.phase = .waitCon ∧ ∀ x ∈ s.script.take k, x.pins.conRsp = none) ∨
      (s.fsm.phase = .waitFill ∧ ∀ x ∈ s.script.take k, x.pins.fillRsp = none)) →
    ∃ u, Host.Core.run Sys2Proof.core k s = .next u ∧ u.fsm = s.fsm ∧ u.accesses = s.accesses ∧
      u.shadow = s.shadow ∧ u.scr = s.scr ∧ u.sent = s.sent ∧ u.caps = s.caps ∧
      u.core = coreMoves s.core (s.script.take k) ∧
      ((∀ x ∈ s.script.take k, x.coreWst = none ∧ x.coreRst = none) → u.core = s.core) ∧
      (k ≠ 0 → u.accDone = false ∧ u.accRdata = none ∧ u.event = none)

/-- 10_state.md R19 (`IDLE`: no access is in progress): with no access presented the block does nothing, and the core's
pointers are what the core's own moves make of them (the idle step is log entry 8, where the moves land log entry
12). -/
def Obligations.IdleWithoutAccessDoesNothing : Prop :=
  ∀ s : State, s.fsm.phase = .idle → s.accesses = [] →
    ∃ u, step s = .next u ∧ u.shadow = s.shadow ∧ u.scr = s.scr ∧ u.fsm = s.fsm ∧ u.caps = s.caps ∧
      u.core = ⟨s.nextSample.coreWst.getD s.core.wst, s.nextSample.coreRst.getD s.core.rst⟩ ∧
      u.accDone = false ∧ u.accRdata = none ∧ u.event = none ∧ u.sent = s.sent ∧ u.accesses = []

/-- 60_exceptions.md R126: no access faults or traps and none reports an error: from every state the step answers a
next state. -/
def Obligations.StepNeverFaultsOrRefuses : Prop :=
  ∀ s : State, ∃ u, step s = .next u

/-! ### Reset -/

/-- 70_reset_and_hazards.md R139, for every configuration. The values are the spec's own decision D5. -/
def Obligations.ResetValues : Prop :=
  ∀ c : Caps, (∀ a, (State.resetWith c).readShadow a = 0x00) ∧
    (State.resetWith c).scr = ⟨0, 0, 0, false, false, false, 0⟩ ∧ (State.resetWith c).fsm = ⟨.idle, false⟩ ∧
    (State.resetWith c).halt = false ∧ (State.resetWith c).palette0 = 0 ∧ (State.resetWith c).palette1 = 0 ∧
    (State.resetWith c).palette2 = 0 ∧ (State.resetWith c).palette3 = 0 ∧ (State.resetWith c).caps = c

/-- 70_reset_and_hazards.md R140: the reset values satisfy every invariant, in every configuration, the identities of
the cursor registers with their shadow halves among them. -/
def Obligations.ResetMeetsInvariants : Prop :=
  ∀ c : Caps, (State.resetWith c).Inv ∧
    (State.resetWith c).scr.x = cat16 ((State.resetWith c).readShadow 0x28) ((State.resetWith c).readShadow 0x29) ∧
    (State.resetWith c).scr.y = cat16 ((State.resetWith c).readShadow 0x2A) ((State.resetWith c).readShadow 0x2B)

/-! ### Reads: what each answers -/

/-- 41_system_page.md R66, R67: the core's pointers, whatever their shadow bytes hold. -/
def Obligations.StackPointerReads : Prop :=
  RowTakes 0x00400 0x1FF00 anyBuild (fun _ => .rdSysWst) ∧ RowTakes 0x00500 0x1FF00 anyBuild (fun _ => .rdSysRst) ∧
  ∀ s : State,
    (∃ t, exec .rdSysWst s = .next t ∧ State.ReadGives s t s.core.wst ∧ State.NothingSent s t) ∧
    (∃ t, exec .rdSysRst s = .next t ∧ State.ReadGives s t s.core.rst ∧ State.NothingSent s t)

/-- 43_screen_page.md R75 to R78: the live surface size, high byte at the even address. That the inputs are 16 bits
wide is the spec's decision D6. -/
def Obligations.SurfaceSizeReads : Prop :=
  RowTakes 0x02200 0x1FF00 Caps.hasScreen (fun _ => .rdScrWidthHi) ∧
  RowTakes 0x02300 0x1FF00 Caps.hasScreen (fun _ => .rdScrWidthLo) ∧
  RowTakes 0x02400 0x1FF00 Caps.hasScreen (fun _ => .rdScrHeightHi) ∧
  RowTakes 0x02500 0x1FF00 Caps.hasScreen (fun _ => .rdScrHeightLo) ∧
  ∀ s : State,
    (∃ t, exec .rdScrWidthHi s = .next t ∧ State.ReadGives s t (s.pins.surfW.extractLsb' 8 8) ∧ State.NothingSent s t) ∧
    (∃ t, exec .rdScrWidthLo s = .next t ∧ State.ReadGives s t (s.pins.surfW.extractLsb' 0 8) ∧ State.NothingSent s t) ∧
    (∃ t, exec .rdScrHeightHi s = .next t ∧ State.ReadGives s t (s.pins.surfH.extractLsb' 8 8) ∧
      State.NothingSent s t) ∧
    (∃ t, exec .rdScrHeightLo s = .next t ∧ State.ReadGives s t (s.pins.surfH.extractLsb' 0 8) ∧ State.NothingSent s t)

/-- 43_screen_page.md R79 to R84: the registers, not their shadow bytes. -/
def Obligations.ScreenRegisterReads : Prop :=
  RowTakes 0x02800 0x1FF00 Caps.hasScreen (fun _ => .rdScrXHi) ∧
  RowTakes 0x02900 0x1FF00 Caps.hasScreen (fun _ => .rdScrXLo) ∧
  RowTakes 0x02A00 0x1FF00 Caps.hasScreen (fun _ => .rdScrYHi) ∧
  RowTakes 0x02B00 0x1FF00 Caps.hasScreen (fun _ => .rdScrYLo) ∧
  RowTakes 0x02C00 0x1FF00 Caps.hasScreen (fun _ => .rdScrSprHi) ∧
  RowTakes 0x02D00 0x1FF00 Caps.hasScreen (fun _ => .rdScrSprLo) ∧
  ∀ s : State,
    (∃ t, exec .rdScrXHi s = .next t ∧ State.ReadGives s t (s.scr.x.extractLsb' 8 8) ∧ State.NothingSent s t) ∧
    (∃ t, exec .rdScrXLo s = .next t ∧ State.ReadGives s t (s.scr.x.extractLsb' 0 8) ∧ State.NothingSent s t) ∧
    (∃ t, exec .rdScrYHi s = .next t ∧ State.ReadGives s t (s.scr.y.extractLsb' 8 8) ∧ State.NothingSent s t) ∧
    (∃ t, exec .rdScrYLo s = .next t ∧ State.ReadGives s t (s.scr.y.extractLsb' 0 8) ∧ State.NothingSent s t) ∧
    (∃ t, exec .rdScrSprHi s = .next t ∧ State.ReadGives s t (s.scr.sprite.extractLsb' 8 8) ∧ State.NothingSent s t) ∧
    (∃ t, exec .rdScrSprLo s = .next t ∧ State.ReadGives s t (s.scr.sprite.extractLsb' 0 8) ∧ State.NothingSent s t)

/-- 45_clock_page.md R107 to R114: the clock inputs, forwarded unchanged. -/
def Obligations.ClockReads : Prop :=
  RowTakes 0x0C000 0x1FF00 Caps.hasClock (fun _ => .rdRtcYearHi) ∧
  RowTakes 0x0C100 0x1FF00 Caps.hasClock (fun _ => .rdRtcYearLo) ∧
  RowTakes 0x0C200 0x1FF00 Caps.hasClock (fun _ => .rdRtcMonth) ∧
  RowTakes 0x0C300 0x1FF00 Caps.hasClock (fun _ => .rdRtcDay) ∧
  RowTakes 0x0C400 0x1FF00 Caps.hasClock (fun _ => .rdRtcHour) ∧
  RowTakes 0x0C500 0x1FF00 Caps.hasClock (fun _ => .rdRtcMinute) ∧
  RowTakes 0x0C600 0x1FF00 Caps.hasClock (fun _ => .rdRtcSecond) ∧
  RowTakes 0x0C700 0x1FF00 Caps.hasClock (fun _ => .rdRtcWeekday) ∧
  ∀ s : State,
    (∃ t, exec .rdRtcYearHi s = .next t ∧ State.ReadGives s t (s.pins.rtc.year.extractLsb' 8 8) ∧
      State.NothingSent s t) ∧
    (∃ t, exec .rdRtcYearLo s = .next t ∧ State.ReadGives s t (s.pins.rtc.year.extractLsb' 0 8) ∧
      State.NothingSent s t) ∧
    (∃ t, exec .rdRtcMonth s = .next t ∧ State.ReadGives s t s.pins.rtc.month0 ∧ State.NothingSent s t) ∧
    (∃ t, exec .rdRtcDay s = .next t ∧ State.ReadGives s t s.pins.rtc.day0 ∧ State.NothingSent s t) ∧
    (∃ t, exec .rdRtcHour s = .next t ∧ State.ReadGives s t s.pins.rtc.hour ∧ State.NothingSent s t) ∧
    (∃ t, exec .rdRtcMinute s = .next t ∧ State.ReadGives s t s.pins.rtc.minute ∧ State.NothingSent s t) ∧
    (∃ t, exec .rdRtcSecond s = .next t ∧ State.ReadGives s t s.pins.rtc.second ∧ State.NothingSent s t) ∧
    (∃ t, exec .rdRtcWeekday s = .next t ∧ State.ReadGives s t s.pins.rtc.weekday ∧ State.NothingSent s t)

/-- 45_clock_page.md R115, R116: the day of the year; which byte is which is the spec's decision D16. -/
def Obligations.DayOfYearReads : Prop :=
  RowTakes 0x0C800 0x1FF00 Caps.hasClock (fun _ => .rdRtcYdayHi) ∧
  RowTakes 0x0C900 0x1FF00 Caps.hasClock (fun _ => .rdRtcYdayLo) ∧
  ∀ s : State,
    (∃ t, exec .rdRtcYdayHi s = .next t ∧ State.ReadGives s t (s.pins.rtc.yday.extractLsb' 8 8) ∧
      State.NothingSent s t) ∧
    (∃ t, exec .rdRtcYdayLo s = .next t ∧ State.ReadGives s t (s.pins.rtc.yday.extractLsb' 0 8) ∧
      State.NothingSent s t)

/-- 45_clock_page.md R117: the daylight-savings port gives its shadow byte, with a diagnostic (code 4 of 10_state.md
R29) when `HAS_DIAG`; the event is the spec's decision D14. -/
def Obligations.DaylightSavingsRead : Prop :=
  RowTakes 0x0CA00 0x1FF00 Caps.hasClock (fun _ => .rdRtcDst) ∧
  ∀ s : State, ∃ t, exec .rdRtcDst s = .next t ∧ State.ReadGives s t (s.readShadow 0xCA) ∧
    State.SendsDiag s t .rtcDstRead 0xCA (s.readShadow 0xCA) ∧
    (s.caps.hasDiag = true → t.diagValid = true ∧ t.diagPort = some (4, 0xCA, s.readShadow 0xCA))

/-- 40_dispatch.md R62: the row is taken by every read no earlier row takes, and gives the shadow byte. -/
def Obligations.ShadowRead : Prop :=
  (∀ (c : Caps) (t : Txn), t.isWrite = false → specialRead c t.addr = false →
    decode c t = some (.rdShadow t.addr)) ∧
  ∀ (s : State) (a : Byte),
    ∃ t, exec (.rdShadow a) s = .next t ∧ State.ReadGives s t (s.readShadow a) ∧ State.NothingSent s t

/-- 40_dispatch.md R60: a read writes no state of the block nor the core's stack pointers, and only the
daylight-savings read hands anything over. What that one hands over (its code, address and byte, and only with
`HAS_DIAG`) is 45_clock_page.md R117 and the spec's decision D14 (log entry 4). -/
def Obligations.ReadsChangeNoState : Prop :=
  ∀ (i : Instr) (s : State), i.isWrite = false →
    ∃ t b, exec i s = .next t ∧ State.ReadGives s t b ∧
      (i ≠ .rdRtcDst → State.NothingSent s t) ∧
      (i = .rdRtcDst → State.SendsDiag s t .rtcDstRead 0xCA (s.readShadow 0xCA))

/-! ### Writes: what each does -/

/-- 40_dispatch.md R59 step 1, 10_state.md R13: whatever the row, a write stores its byte at its address and changes
no other shadow byte, and it changes neither the straps nor what the environment still has to present. -/
def Obligations.EveryWriteStoresItsByte : Prop :=
  ∀ (i : Instr) (s : State), i.isWrite = true →
    ∃ t, exec i s = .next t ∧ State.StoresByte s t i.addr i.data ∧ State.SameEnvironment s t

/-- 40_dispatch.md R63: the row is taken by every write no earlier row takes, and does nothing beyond the shadow
store; `halt` and the palette outputs follow the byte stored (46_palette_codec.md R119; that the palette is
combinational and 16 bits wide is the spec's decisions D12, D13). -/
def Obligations.ShadowWrite : Prop :=
  (∀ (c : Caps) (t : Txn), t.isWrite = true → specialWrite c t.addr = false →
    decode c t = some (.wrShadow t.addr t.data)) ∧
  ∀ (s : State) (a v : Byte), s.fsm.phase = .idle →
    ∃ t, exec (.wrShadow a v) s = .next t ∧ State.StoresByte s t a v ∧ State.WriteCompletes t ∧ t.scr = s.scr ∧
      t.fsm = s.fsm ∧ t.core = s.core ∧ State.SameEnvironment s t ∧ State.NothingSent s t ∧
      t.halt = (if a = 0x0F then v != 0x00 else s.halt) ∧
      t.palette0 = paletteEven (if a = 0x08 then v else s.readShadow 0x08) (if a = 0x09 then v else s.readShadow 0x09) ∧
      t.palette1 = paletteOdd (if a = 0x09 then v else s.readShadow 0x09) (if a = 0x0A then v else s.readShadow 0x0A) ∧
      t.palette2 = paletteEven (if a = 0x0A then v else s.readShadow 0x0A) (if a = 0x0B then v else s.readShadow 0x0B) ∧
      t.palette3 = paletteOdd (if a = 0x0B then v else s.readShadow 0x0B) (if a = 0x0C then v else s.readShadow 0x0C)

/-- 41_system_page.md R69, R70: the core's pointer takes the byte unchanged, by a strobe with the byte as its data. -/
def Obligations.StackPointerWrites : Prop :=
  RowTakes 0x10400 0x1FF00 anyBuild (fun t => .wrSysWst t.data) ∧
  RowTakes 0x10500 0x1FF00 anyBuild (fun t => .wrSysRst t.data) ∧
  ∀ (s : State) (v : Byte), s.fsm.phase = .idle →
    (∃ t, exec (.wrSysWst v) s = .next t ∧ t.core = ⟨v, s.core.rst⟩ ∧ State.Sends s t (.coreWrite .wst v) ∧
      t.coreWstWe = true ∧ t.coreRstWe = false ∧ t.coreSpWdata = some v ∧ State.StoresByte s t 0x04 v ∧
      State.WriteCompletes t ∧ t.scr = s.scr ∧ t.fsm = s.fsm ∧ State.SameEnvironment s t) ∧
    (∃ t, exec (.wrSysRst v) s = .next t ∧ t.core = ⟨s.core.wst, v⟩ ∧ State.Sends s t (.coreWrite .rst v) ∧
      t.coreRstWe = true ∧ t.coreWstWe = false ∧ t.coreSpWdata = some v ∧ State.StoresByte s t 0x05 v ∧
      State.WriteCompletes t ∧ t.scr = s.scr ∧ t.fsm = s.fsm ∧ State.SameEnvironment s t)

/-- 41_system_page.md R68, R71: a diagnostic for a nonzero byte when `HAS_DIAG` (codes 0 and 1 of 10_state.md R29),
nothing beyond the shadow store otherwise. The form of the events is the spec's decisions D14 and D15. -/
def Obligations.SystemDiagnosticWrites : Prop :=
  RowTakes 0x10300 0x1FF00 anyBuild (fun t => .wrSysExpansion t.data) ∧
  RowTakes 0x10E00 0x1FF00 anyBuild (fun t => .wrSysDebug t.data) ∧
  ∀ (s : State) (v : Byte), s.fsm.phase = .idle →
    (∃ t, exec (.wrSysExpansion v) s = .next t ∧ State.StoresByte s t 0x03 v ∧ State.WriteCompletes t ∧
      (v = 0x00 → State.NothingSent s t) ∧ (v ≠ 0x00 → State.SendsDiag s t .expansion 0x03 v) ∧
      (v ≠ 0x00 → s.caps.hasDiag = true → t.diagPort = some (0, 0x03, v)) ∧
      t.scr = s.scr ∧ t.fsm = s.fsm ∧ t.core = s.core ∧ State.SameEnvironment s t) ∧
    (∃ t, exec (.wrSysDebug v) s = .next t ∧ State.StoresByte s t 0x0E v ∧ State.WriteCompletes t ∧
      (v = 0x00 → State.NothingSent s t) ∧ (v ≠ 0x00 → State.SendsDiag s t .stackDump 0x0E v) ∧
      (v ≠ 0x00 → s.caps.hasDiag = true → t.diagPort = some (1, 0x0E, v)) ∧
      t.scr = s.scr ∧ t.fsm = s.fsm ∧ t.core = s.core ∧ State.SameEnvironment s t)

/-- 42_console_page.md R72, R73: with an answer of either value the byte is forwarded once and the access completes.
The wait is the spec's decision D20; that the answer may come in the step of the request is log entry 7. -/
def Obligations.ConsoleWritesAnswered : Prop :=
  RowTakes 0x11800 0x1FF00 Caps.hasConsole (fun t => .wrConOut t.data) ∧
  RowTakes 0x11900 0x1FF00 Caps.hasConsole (fun t => .wrConErr t.data) ∧
  ∀ (s : State) (v : Byte) (ok : Bool), s.pins.conRsp = some ok →
    (∃ t, exec (.wrConOut v) s = .next t ∧ State.Sends s t (.consoleWrite .out v) ∧ t.conReq = true ∧
      t.conPort = some (0, v) ∧ State.StoresByte s t 0x18 v ∧ State.WriteCompletes t ∧ t.fsm = ⟨.idle, s.fsm.pixel⟩ ∧
      t.scr = s.scr ∧ t.core = s.core ∧ State.SameEnvironment s t) ∧
    (∃ t, exec (.wrConErr v) s = .next t ∧ State.Sends s t (.consoleWrite .err v) ∧ t.conReq = true ∧
      t.conPort = some (1, v) ∧ State.StoresByte s t 0x19 v ∧ State.WriteCompletes t ∧ t.fsm = ⟨.idle, s.fsm.pixel⟩ ∧
      t.scr = s.scr ∧ t.core = s.core ∧ State.SameEnvironment s t)

/-- 42_console_page.md R72, R73 and 43_screen_page.md R97: without an answer the byte has been stored and forwarded
and the block waits in WAIT_CON (the spec's decision D20). -/
def Obligations.ConsoleWritesWait : Prop :=
  ∀ (s : State) (v : Byte), s.pins.conRsp = none →
    (∃ t, exec (.wrConOut v) s = .next t ∧ State.Sends s t (.consoleWrite .out v) ∧ State.StoresByte s t 0x18 v ∧
      t.fsm = ⟨.waitCon, s.fsm.pixel⟩ ∧ t.accDone = false ∧ t.scr = s.scr ∧ t.core = s.core ∧
      State.SameEnvironment s t) ∧
    (∃ t, exec (.wrConErr v) s = .next t ∧ State.Sends s t (.consoleWrite .err v) ∧ State.StoresByte s t 0x19 v ∧
      t.fsm = ⟨.waitCon, s.fsm.pixel⟩ ∧ t.accDone = false ∧ t.scr = s.scr ∧ t.core = s.core ∧
      State.SameEnvironment s t)

/-- 43_screen_page.md R85: all four fields are overwritten from the byte; bit 3 is ignored. The status outputs of
10_state.md R30 show the two fields that nothing consumes (the outputs are the spec's decision D2). -/
def Obligations.AutoByteWrite : Prop :=
  RowTakes 0x12600 0x1FF00 Caps.hasScreen (fun t => .wrScrAuto t.data) ∧
  ∀ (s : State) (v : Byte), s.fsm.phase = .idle →
    ∃ t, exec (.wrScrAuto v) s = .next t ∧
      t.scr = ⟨s.scr.x, s.scr.y, s.scr.sprite, v.getLsbD 0, v.getLsbD 1, v.getLsbD 2, v.extractLsb' 4 4⟩ ∧
      t.scrLength = v.extractLsb' 4 4 ∧ t.scrAutoSprite = v.getLsbD 2 ∧
      State.StoresByte s t 0x26 v ∧ State.WriteCompletes t ∧ t.fsm = s.fsm ∧ t.core = s.core ∧
      State.SameEnvironment s t ∧ State.NothingSent s t

/-- 43_screen_page.md R86 to R89: a half-write of a cursor register composes it from the byte written and the other
half's shadow byte. -/
def Obligations.CursorHalfWrites : Prop :=
  RowTakes 0x12800 0x1FF00 Caps.hasScreen (fun t => .wrScrXHi t.data) ∧
  RowTakes 0x12900 0x1FF00 Caps.hasScreen (fun t => .wrScrXLo t.data) ∧
  RowTakes 0x12A00 0x1FF00 Caps.hasScreen (fun t => .wrScrYHi t.data) ∧
  RowTakes 0x12B00 0x1FF00 Caps.hasScreen (fun t => .wrScrYLo t.data) ∧
  ∀ (s : State) (v : Byte), s.fsm.phase = .idle →
    (∃ t, exec (.wrScrXHi v) s = .next t ∧ t.scr = { s.scr with x := cat16 v (s.readShadow 0x29) } ∧
      State.StoresByte s t 0x28 v ∧ State.WriteCompletes t ∧ t.fsm = s.fsm ∧ t.core = s.core ∧
      State.SameEnvironment s t ∧ State.NothingSent s t) ∧
    (∃ t, exec (.wrScrXLo v) s = .next t ∧ t.scr = { s.scr with x := cat16 (s.readShadow 0x28) v } ∧
      State.StoresByte s t 0x29 v ∧ State.WriteCompletes t ∧ t.fsm = s.fsm ∧ t.core = s.core ∧
      State.SameEnvironment s t ∧ State.NothingSent s t) ∧
    (∃ t, exec (.wrScrYHi v) s = .next t ∧ t.scr = { s.scr with y := cat16 v (s.readShadow 0x2B) } ∧
      State.StoresByte s t 0x2A v ∧ State.WriteCompletes t ∧ t.fsm = s.fsm ∧ t.core = s.core ∧
      State.SameEnvironment s t ∧ State.NothingSent s t) ∧
    (∃ t, exec (.wrScrYLo v) s = .next t ∧ t.scr = { s.scr with y := cat16 (s.readShadow 0x2A) v } ∧
      State.StoresByte s t 0x2B v ∧ State.WriteCompletes t ∧ t.fsm = s.fsm ∧ t.core = s.core ∧
      State.SameEnvironment s t ∧ State.NothingSent s t)

/-- 43_screen_page.md R90, R91: a half-write of the sprite address composes it in the same way. -/
def Obligations.SpriteHalfWrites : Prop :=
  RowTakes 0x12C00 0x1FF00 Caps.hasScreen (fun t => .wrScrSprHi t.data) ∧
  RowTakes 0x12D00 0x1FF00 Caps.hasScreen (fun t => .wrScrSprLo t.data) ∧
  ∀ (s : State) (v : Byte), s.fsm.phase = .idle →
    (∃ t, exec (.wrScrSprHi v) s = .next t ∧ t.scr = { s.scr with sprite := cat16 v (s.readShadow 0x2D) } ∧
      State.StoresByte s t 0x2C v ∧ State.WriteCompletes t ∧ t.fsm = s.fsm ∧ t.core = s.core ∧
      State.SameEnvironment s t ∧ State.NothingSent s t) ∧
    (∃ t, exec (.wrScrSprLo v) s = .next t ∧ t.scr = { s.scr with sprite := cat16 (s.readShadow 0x2C) v } ∧
      State.StoresByte s t 0x2D v ∧ State.WriteCompletes t ∧ t.fsm = s.fsm ∧ t.core = s.core ∧
      State.SameEnvironment s t ∧ State.NothingSent s t)

/-- 20_memory.md R34, R35 and 30_encoding.md R52, R53: two half-writes of a pair, in either order, then reads of both
halves give back the bytes written, high byte at the even address. -/
def Obligations.HalfWritesReadBack : Prop :=
  ∀ (s : State) (h l : Byte),
    (∃ t u, exec (.wrScrXHi h) s = .next t ∧ exec (.wrScrXLo l) t = .next u ∧ u.scr.x = cat16 h l ∧
      ∃ p q, exec .rdScrXHi u = .next p ∧ p.accRdata = some h ∧ exec .rdScrXLo u = .next q ∧ q.accRdata = some l) ∧
    (∃ t u, exec (.wrScrXLo l) s = .next t ∧ exec (.wrScrXHi h) t = .next u ∧ u.scr.x = cat16 h l ∧
      ∃ p q, exec .rdScrXHi u = .next p ∧ p.accRdata = some h ∧ exec .rdScrXLo u = .next q ∧ q.accRdata = some l) ∧
    (∃ t u, exec (.wrScrYHi h) s = .next t ∧ exec (.wrScrYLo l) t = .next u ∧ u.scr.y = cat16 h l ∧
      ∃ p q, exec .rdScrYHi u = .next p ∧ p.accRdata = some h ∧ exec .rdScrYLo u = .next q ∧ q.accRdata = some l) ∧
    (∃ t u, exec (.wrScrYLo l) s = .next t ∧ exec (.wrScrYHi h) t = .next u ∧ u.scr.y = cat16 h l ∧
      ∃ p q, exec .rdScrYHi u = .next p ∧ p.accRdata = some h ∧ exec .rdScrYLo u = .next q ∧ q.accRdata = some l) ∧
    (∃ t u, exec (.wrScrSprLo l) s = .next t ∧ exec (.wrScrSprHi h) t = .next u ∧ u.scr.sprite = cat16 h l ∧
      ∃ p q, exec .rdScrSprHi u = .next p ∧ p.accRdata = some h ∧
        exec .rdScrSprLo u = .next q ∧ q.accRdata = some l) ∧
    (∃ t u, exec (.wrScrSprHi h) s = .next t ∧ exec (.wrScrSprLo l) t = .next u ∧ u.scr.sprite = cat16 h l ∧
      ∃ p q, exec .rdScrSprHi u = .next p ∧ p.accRdata = some h ∧
        exec .rdScrSprLo u = .next q ∧ q.accRdata = some l)

/-! ### The draw port -/

/-- 43_screen_page.md R94, cursor in bounds and the surface answering: one 1 by 1 fill at the cursor; after Ok each
enabled cursor register steps by one, after Err the cursor stays. The gate on Ok is the spec's decision D10, the
foreground bit on the request its decision D11, the answer in the step of the request log entry 7. -/
def Obligations.PixelDrawAnswered : Prop :=
  RowTakes 0x12E00 0x1FF80 Caps.hasScreen (fun t => .wrScrDrawPixel t.data) ∧
  ∀ (s : State) (v : Byte) (ok : Bool), v.getLsbD 7 = false → s.pins.fillRsp = some ok →
    s.scr.x.toNat < s.pins.surfW.toNat → s.scr.y.toNat < s.pins.surfH.toNat →
    ∃ t, exec (.wrScrDrawPixel v) s = .next t ∧
      State.Sends s t (.surfaceFill s.scr.x s.scr.y 1 1 (v.extractLsb' 0 2) (v.getLsbD 6)) ∧ t.fillReq = true ∧
      t.fillPort = some ⟨s.scr.x, s.scr.y, 1, 1, v.extractLsb' 0 2, v.getLsbD 6⟩ ∧
      t.scr = { s.scr with
        x := if ok = true ∧ s.scr.autoX = true then s.scr.x + 1 else s.scr.x
        y := if ok = true ∧ s.scr.autoY = true then s.scr.y + 1 else s.scr.y } ∧
      State.StoresByte s t 0x2E v ∧ State.WriteCompletes t ∧ t.fsm = ⟨.idle, true⟩ ∧ t.core = s.core ∧
      State.SameEnvironment s t

/-- 43_screen_page.md R94, R97, cursor in bounds and no answer: the request is out and the block waits in WAIT_FILL,
the cursor unmoved (the spec's decision D1). -/
def Obligations.PixelDrawWaits : Prop :=
  ∀ (s : State) (v : Byte), v.getLsbD 7 = false → s.pins.fillRsp = none →
    s.scr.x.toNat < s.pins.surfW.toNat → s.scr.y.toNat < s.pins.surfH.toNat →
    ∃ t, exec (.wrScrDrawPixel v) s = .next t ∧
      State.Sends s t (.surfaceFill s.scr.x s.scr.y 1 1 (v.extractLsb' 0 2) (v.getLsbD 6)) ∧ t.scr = s.scr ∧
      State.StoresByte s t 0x2E v ∧ t.fsm = ⟨.waitFill, true⟩ ∧ t.accDone = false ∧ t.core = s.core ∧
      State.SameEnvironment s t

/-- 43_screen_page.md R93: the bounds check, unsigned, on the size sampled at the draw. With the cursor inside both
edges a pixel draw issues its request; at or beyond an edge it is silently skipped: no request, no increment, the
access completes. A surface of width or height 0 never receives a pixel request. -/
def Obligations.PixelDrawBoundsCheck : Prop :=
  (∀ (s : State) (v : Byte), v.getLsbD 7 = false →
    s.scr.x.toNat < s.pins.surfW.toNat ∧ s.scr.y.toNat < s.pins.surfH.toNat →
    ∃ t, exec (.wrScrDrawPixel v) s = .next t ∧ t.fillReq = true) ∧
  (∀ (s : State) (v : Byte), v.getLsbD 7 = false → s.fsm.phase = .idle →
    ¬(s.scr.x.toNat < s.pins.surfW.toNat ∧ s.scr.y.toNat < s.pins.surfH.toNat) →
    ∃ t, exec (.wrScrDrawPixel v) s = .next t ∧ State.NothingSent s t ∧ t.scr = s.scr ∧ State.StoresByte s t 0x2E v ∧
      State.WriteCompletes t ∧ t.fsm = s.fsm ∧ t.core = s.core ∧ State.SameEnvironment s t) ∧
  (∀ (s : State) (v : Byte), v.getLsbD 7 = false → s.fsm.phase = .idle →
    s.pins.surfW = 0 ∨ s.pins.surfH = 0 →
    ∃ t, exec (.wrScrDrawPixel v) s = .next t ∧ State.NothingSent s t)

/-- 43_screen_page.md R95, R96: the fill of the rectangle anchored at the cursor, requested whatever its size; the
cursor does not move and the answer's value is ignored. The wrap is the spec's decision D8, the absent bounds check its
decision D9, the foreground bit D11. -/
def Obligations.FillDrawAnswered : Prop :=
  RowTakes 0x12E80 0x1FF80 Caps.hasScreen (fun t => .wrScrDrawFill t.data) ∧
  ∀ (s : State) (v : Byte) (ok : Bool), v.getLsbD 7 = true → s.pins.fillRsp = some ok →
    ∃ t, exec (.wrScrDrawFill v) s = .next t ∧
      State.Sends s t (.surfaceFill
        (if v.getLsbD 4 then 0 else s.scr.x) (if v.getLsbD 5 then 0 else s.scr.y)
        (if v.getLsbD 4 then s.scr.x else s.pins.surfW - s.scr.x)
        (if v.getLsbD 5 then s.scr.y else s.pins.surfH - s.scr.y) (v.extractLsb' 0 2) (v.getLsbD 6)) ∧
      t.scr = s.scr ∧ State.StoresByte s t 0x2E v ∧ State.WriteCompletes t ∧ t.fsm = ⟨.idle, false⟩ ∧
      t.core = s.core ∧ State.SameEnvironment s t

/-- 43_screen_page.md R96, R97: without an answer the fill request is out and the block waits in WAIT_FILL (the spec's
decisions D1, D8, D9). -/
def Obligations.FillDrawWaits : Prop :=
  ∀ (s : State) (v : Byte), v.getLsbD 7 = true → s.pins.fillRsp = none →
    ∃ t, exec (.wrScrDrawFill v) s = .next t ∧
      State.Sends s t (.surfaceFill
        (if v.getLsbD 4 then 0 else s.scr.x) (if v.getLsbD 5 then 0 else s.scr.y)
        (if v.getLsbD 4 then s.scr.x else s.pins.surfW - s.scr.x)
        (if v.getLsbD 5 then s.scr.y else s.pins.surfH - s.scr.y) (v.extractLsb' 0 2) (v.getLsbD 6)) ∧
      t.scr = s.scr ∧ State.StoresByte s t 0x2E v ∧ t.fsm = ⟨.waitFill, false⟩ ∧ t.accDone = false ∧
      t.core = s.core ∧ State.SameEnvironment s t

/-- 43_screen_page.md R95: along an axis without the flip, the rectangle ends exactly at the edge when the cursor is
inside or on it, and its size is the wrapped difference, larger than the surface, when the cursor is beyond it; with
the flip it runs from 0 to the cursor. The wrap is the spec's decision D8. -/
def Obligations.FillRectangleGeometry : Prop :=
  ∀ (c size : Half),
    fillSpan true c size = (0, c) ∧ (fillSpan false c size).1 = c ∧
    (c.toNat ≤ size.toNat → c.toNat + (fillSpan false c size).2.toNat = size.toNat) ∧
    (size.toNat < c.toNat → (fillSpan false c size).2.toNat = 0x10000 - (c.toNat - size.toNat) ∧
      size.toNat < (fillSpan false c size).2.toNat)

/-- 70_reset_and_hazards.md R146, 43_screen_page.md R93, R94: a horizontal line of pixel draws with auto_x, each
answered Ok, carries the cursor to the right edge and no further: draws beyond it send no request (the gate on Ok is
the spec's decision D10). -/
def Obligations.PixelLineStopsAtTheEdge : Prop :=
  ∀ (n : Nat) (v : Byte) (s : State), v.getLsbD 7 = false → s.fsm.phase = .idle → s.pins.fillRsp = some true →
    s.scr.autoX = true → s.scr.autoY = false → s.scr.x.toNat ≤ s.pins.surfW.toNat →
    s.scr.y.toNat < s.pins.surfH.toNat →
    ∃ t, drawPixels v n s = .next t ∧ t.scr.x.toNat = min (s.scr.x.toNat + n) s.pins.surfW.toNat ∧
      t.scr.y = s.scr.y ∧ t.fsm.phase = .idle ∧ (∀ a, a ≠ 0x2E → t.readShadow a = s.readShadow a) ∧
      t.sent.length = s.sent.length + min n (s.pins.surfW.toNat - s.scr.x.toNat)

/-- 70_reset_and_hazards.md R145, 10_state.md R17: an auto-increment moves a cursor register and not its shadow halves,
and a later write of either half, of either register, composes from the other half's stale shadow byte, discarding the
increment (inferences the spec marks as derived; the increment after Ok is its decision D10, the answer in the step of
the request log entry 7). -/
def Obligations.HalfWriteDiscardsIncrement : Prop :=
  ∀ (s : State) (v w : Byte), v.getLsbD 7 = false → s.pins.fillRsp = some true →
    s.scr.x.toNat < s.pins.surfW.toNat → s.scr.y.toNat < s.pins.surfH.toNat →
    ∃ t, exec (.wrScrDrawPixel v) s = .next t ∧
      (∀ a, a ≠ 0x2E → t.readShadow a = s.readShadow a) ∧
      (s.scr.autoX = true → t.scr.x = s.scr.x + 1 ∧
        (∃ u, exec (.wrScrXHi w) t = .next u ∧ u.scr.x = cat16 w (s.readShadow 0x29)) ∧
        (∃ u, exec (.wrScrXLo w) t = .next u ∧ u.scr.x = cat16 (s.readShadow 0x28) w)) ∧
      (s.scr.autoY = true → t.scr.y = s.scr.y + 1 ∧
        (∃ u, exec (.wrScrYHi w) t = .next u ∧ u.scr.y = cat16 w (s.readShadow 0x2B)) ∧
        (∃ u, exec (.wrScrYLo w) t = .next u ∧ u.scr.y = cat16 (s.readShadow 0x2A) w))

/-- 40_dispatch.md R65 and 43_screen_page.md R97 give the same end: an access whose answer comes with the request
leaves the same state as one whose answer comes afterwards (log entry 7). -/
def Obligations.LateAnswerSameAsEarly : Prop :=
  ∀ (s : State) (v : Byte) (ok : Bool),
    (∀ i, (i = Instr.wrScrDrawPixel v ∨ i = Instr.wrScrDrawFill v) →
      ∃ t u, exec i (s.withFillRsp none) = .next t ∧
        exec i (s.withFillRsp (some ok)) = .next u ∧
        (s.fsm.phase = .idle → (t.withFillRsp (some ok)).respond = u)) ∧
    (∀ i, (i = Instr.wrConOut v ∨ i = Instr.wrConErr v) →
      ∃ t u, exec i (s.withConRsp none) = .next t ∧
        exec i (s.withConRsp (some ok)) = .next u ∧
        (t.withConRsp (some ok)).respond = u)

/-! ### The stub pages -/

/-- 44_stub_pages.md R101 to R104: an audio write stores its byte and, with `HAS_DIAG`, hands over one diagnostic (code
2 of 10_state.md R29) for every byte and every port; that is the spec's decision D14. -/
def Obligations.AudioWrites : Prop :=
  RowTakes 0x13000 0x1F000 anyBuild (fun t => .wrAudioP3 t.port t.data) ∧
  RowTakes 0x14000 0x1F000 anyBuild (fun t => .wrAudioP4 t.port t.data) ∧
  RowTakes 0x15000 0x1F000 anyBuild (fun t => .wrAudioP5 t.port t.data) ∧
  RowTakes 0x16000 0x1F000 anyBuild (fun t => .wrAudioP6 t.port t.data) ∧
  ∀ (s : State) (p : BitVec 4) (v : Byte), s.fsm.phase = .idle →
    ∀ i a, (i, a) ∈ [(Instr.wrAudioP3 p v, 0x3#4 ++ p), (Instr.wrAudioP4 p v, 0x4#4 ++ p),
        (Instr.wrAudioP5 p v, 0x5#4 ++ p), (Instr.wrAudioP6 p v, 0x6#4 ++ p)] →
      ∃ t, exec i s = .next t ∧ State.StoresByte s t a v ∧ State.SendsDiag s t .audioWrite a v ∧
        (s.caps.hasDiag = true → t.diagPort = some (2, a, v)) ∧ State.WriteCompletes t ∧ t.scr = s.scr ∧
        t.fsm = s.fsm ∧ t.core = s.core ∧ State.SameEnvironment s t

/-- 44_stub_pages.md R105, R106: a file write likewise, with code 3; no file is accessed (the spec's decision D14). -/
def Obligations.FileWrites : Prop :=
  RowTakes 0x1A000 0x1F000 anyBuild (fun t => .wrFilePa t.port t.data) ∧
  RowTakes 0x1B000 0x1F000 anyBuild (fun t => .wrFilePb t.port t.data) ∧
  ∀ (s : State) (p : BitVec 4) (v : Byte), s.fsm.phase = .idle →
    ∀ i a, (i, a) ∈ [(Instr.wrFilePa p v, 0xA#4 ++ p), (Instr.wrFilePb p v, 0xB#4 ++ p)] →
      ∃ t, exec i s = .next t ∧ State.StoresByte s t a v ∧ State.SendsDiag s t .fileWrite a v ∧
        (s.caps.hasDiag = true → t.diagPort = some (3, a, v)) ∧ State.WriteCompletes t ∧ t.scr = s.scr ∧
        t.fsm = s.fsm ∧ t.core = s.core ∧ State.SameEnvironment s t

/-- 44_stub_pages.md R100: every read of the audio and file pages is the default read, in every build, and hands
nothing over. -/
def Obligations.StubPageReadsAreShadow : Prop :=
  ∀ (c : Caps) (t : Txn), t.isWrite = false →
    ((0x30 ≤ t.addr.toNat ∧ t.addr.toNat ≤ 0x6F) ∨ (0xA0 ≤ t.addr.toNat ∧ t.addr.toNat ≤ 0xBF)) →
    decode c t = some (.rdShadow t.addr) ∧
    ∀ s : State, ∃ u, exec (.rdShadow t.addr) s = .next u ∧ State.ReadGives s u (s.readShadow t.addr) ∧
      State.NothingSent s u

/-! ### Halt and the palette -/

/-- 10_state.md R18: `halt` is `shadow[0x0F] != 0x00` in every state; a write of a nonzero byte to 0x0F makes it true
and a write of 0x00 makes it false again, at once. -/
def Obligations.HaltFollowsItsByte : Prop :=
  (∀ s : State, s.halt = true ↔ s.readShadow 0x0F ≠ 0x00) ∧
  ∀ (s : State) (v : Byte), ∃ t, exec (.wrShadow 0x0F v) s = .next t ∧ (t.halt = true ↔ v ≠ 0x00)

/-- 46_palette_codec.md R120 to R123, as numbers: a left shift is a doubling and a right shift a halving of the
zero-extended byte (the 16-bit width is the spec's decision D12), and the ranges. -/
def Obligations.PaletteFormula : Prop :=
  ∀ s : State,
    s.palette0.toNat = ((s.readShadow 0x08).toNat * 2) ||| ((s.readShadow 0x09).toNat / 2) ∧
    s.palette1.toNat = ((s.readShadow 0x09).toNat % 2 * 4) ||| (s.readShadow 0x0A).toNat ∧
    s.palette2.toNat = ((s.readShadow 0x0A).toNat * 2) ||| ((s.readShadow 0x0B).toNat / 2) ∧
    s.palette3.toNat = ((s.readShadow 0x0B).toNat % 2 * 4) ||| (s.readShadow 0x0C).toNat ∧
    s.palette0.toNat ≤ 0x1FF ∧ s.palette1.toNat ≤ 0xFF ∧ s.palette2.toNat ≤ 0x1FF ∧ s.palette3.toNat ≤ 0xFF

/-- 46_palette_codec.md R120, its bits: bit 8 is `b8[7]`, bit 7 is `b8[6]`, bits 6 to 1 join `b8` and `b9`, bit 0 is
`b9[1]` (the 16-bit width is the spec's decision D12). -/
def Obligations.PaletteZeroBits : Prop :=
  ∀ s : State,
    s.palette0.getLsbD 8 = (s.readShadow 0x08).getLsbD 7 ∧ s.palette0.getLsbD 7 = (s.readShadow 0x08).getLsbD 6 ∧
    (∀ j, 1 ≤ j → j ≤ 6 →
      s.palette0.getLsbD j = ((s.readShadow 0x08).getLsbD (j - 1) || (s.readShadow 0x09).getLsbD (j + 1))) ∧
    s.palette0.getLsbD 0 = (s.readShadow 0x09).getLsbD 1

/-- 46_palette_codec.md R119, R125: only a write to 0x08..0x0C can change a palette output (combinational outputs are
the spec's decision D13). -/
def Obligations.PaletteChangesOnlyByItsBytes : Prop :=
  ∀ (i : Instr) (s t : State), exec i s = .next t →
    (i.isWrite = false ∨ i.addr.toNat < 0x08 ∨ 0x0C < i.addr.toNat) →
    t.palette0 = s.palette0 ∧ t.palette1 = s.palette1 ∧ t.palette2 = s.palette2 ∧ t.palette3 = s.palette3

/-! ### Invariants of every step -/

/-- 20_memory.md R31, 10_state.md R13: the shadow file keeps its canonical form (the form is the model's, log entry
15). -/
def Obligations.StepKeepsShadowCanonical : Prop :=
  ∀ s u : State, Memory.wf s.shadow → step s = .next u → Memory.wf u.shadow

/-- 10_state.md R17, 70_reset_and_hazards.md R140: with a screen, the sprite register and the auto fields stay what
their shadow bytes say (inferences the spec marks as derived). -/
def Obligations.StepKeepsScreenFollowingShadow : Prop :=
  ∀ s u : State, s.ScreenFollowsShadow → step s = .next u → u.ScreenFollowsShadow

/-- 30_encoding.md R48, 43_screen_page.md R94, R97: the block waits only for a collaborator the build has, and a waiting
pixel draw can still be incremented without a wrap (an inference the spec marks as derived). -/
def Obligations.StepKeepsWaitLegal : Prop :=
  ∀ s u : State, s.WaitPhaseLegal → s.PixelCannotWrap → step s = .next u → u.WaitPhaseLegal ∧ u.PixelCannotWrap

/-- 43_screen_page.md R99: without a screen every access to page 0x20 is a default access, so reads of it give shadow
bytes; in a state whose wait phases are legal, the screen registers keep their reset values at every step and no fill
request is issued. -/
def Obligations.AbsentScreenStaysAtReset : Prop :=
  (∀ (c : Caps) (t : Txn), c.hasScreen = false → pg t.addr = 0x20 →
    decode c t = some (if t.isWrite then .wrShadow t.addr t.data else .rdShadow t.addr)) ∧
  (∀ s u : State, s.caps.hasScreen = false → s.WaitPhaseLegal → s.ScreenAbsentAtReset → step s = .next u →
    u.ScreenAbsentAtReset ∧ u.caps.hasScreen = false ∧ u.fillReq = false ∧
    (∀ t, s.presented = some t → t.isWrite = false → pg t.addr = 0x20 → u.accRdata = some (s.readShadow t.addr)))

/-- Every invariant of this model together, kept by every step (the same rules as the statements before it). -/
def Obligations.StepKeepsInvariants : Prop :=
  ∀ s u : State, s.Inv → step s = .next u → u.Inv ∧ u.caps = s.caps

/-! ### The shadow file over steps and runs -/

/-- 10_state.md R14: only a bus write changes a shadow byte, and it changes only the byte at its own address: what
every step does to every byte. -/
def Obligations.OnlyWritesChangeShadow : Prop :=
  ∀ s : State, ∃ u, step s = .next u ∧
    (∀ t, s.presented = some t → t.isWrite = true →
      ∀ a, u.readShadow a = if a = t.addr then t.data else s.readShadow a) ∧
    ((∀ t, s.presented = some t → t.isWrite = false) → ∀ a, u.readShadow a = s.readShadow a)

/-- 10_state.md R14: over any run (of one step, of any number), from any state, every shadow byte is the data of the last
write to it among the accesses taken, in the order presented, else what it was; so nothing but a write changes it. From
`State.resetWith` what it was is the reset value. -/
def Obligations.RunShadowIsLastWrite : Prop :=
  ∀ (k : Nat) (s u : State), Host.Core.run Sys2Proof.core k s = .next u →
    ∃ taken, s.accesses = taken ++ u.accesses ∧
      ∀ a, u.readShadow a = lastWriteTo a (s.readShadow a) taken

/-- 40_dispatch.md R61, 20_memory.md R41 (inferences the spec marks as derived): over any run, what was handed over
before stays in its order, and at most one event is added for each access taken. -/
def Obligations.RunSendsAtMostOneEventPerAccess : Prop :=
  ∀ (k : Nat) (s u : State), Host.Core.run Sys2Proof.core k s = .next u →
    ∃ taken es, s.accesses = taken ++ u.accesses ∧ u.sent = es ++ s.sent ∧ es.length ≤ taken.length ∧
      taken.length ≤ k

/-! ### What must not matter -/

/-- 60_exceptions.md R137: the block does not gate on `halt`: from two states that differ in the halt byte at most,
every step does the same, but for a read of that byte. -/
def Obligations.HaltGatesNothing : Prop :=
  ∀ (s : State) (v : Byte),
    ∃ u w, step s = .next u ∧ step (s.storeShadow 0x0F v) = .next w ∧ State.AgreeButByte 0x0F u w ∧
      (s.NotReading 0x0F → w.accRdata = u.accRdata)

/-- 70_reset_and_hazards.md R149, 93_implementation_defined.md I16 (an inference the spec marks as derived): the shadow
bytes behind the stack-pointer ports are not observable: the read byte and everything else are the same whatever they
hold. -/
def Obligations.StackPointerShadowUnobservable : Prop :=
  ∀ (s : State) (v : Byte) (a : Byte), (a = 0x04 ∨ a = 0x05) →
    ∃ u w, step s = .next u ∧ step (s.storeShadow a v) = .next w ∧ State.AgreeButByte a u w ∧ w.accRdata = u.accRdata

/-- 20_memory.md R33: the sprite address has no effect; nor have `auto_sprite` and `length` (43_screen_page.md R85):
from two states that differ in them at most, every step hands over the same event and leaves the same state otherwise,
but for a read of the sprite address itself. -/
def Obligations.SpriteFieldsHaveNoEffect : Prop :=
  ∀ (s : State) (p : Half) (b : Bool) (n : BitVec 4),
    ∃ u w, step s = .next u ∧
      step { s with scr := { s.scr with sprite := p, autoSprite := b, length := n } } = .next w ∧
      w.shadow = u.shadow ∧ w.fsm = u.fsm ∧ w.core = u.core ∧ State.SameEnvironment u w ∧ w.accDone = u.accDone ∧
      w.event = u.event ∧ w.sent = u.sent ∧ w.scr.x = u.scr.x ∧ w.scr.y = u.scr.y ∧ w.scr.autoX = u.scr.autoX ∧
      w.scr.autoY = u.scr.autoY ∧
      (s.NotReading 0x2C → s.NotReading 0x2D → w.accRdata = u.accRdata)
end

