-- ==== Sys2Proof/Laws/Decode.lean ====
section
/-! SUPPORT. What the selection of a row depends on. -/

namespace Sys2Proof

/-- No mask of the table looks below bit 7 (30_encoding.md R54). -/
theorem rows_mask_key : ∀ r ∈ rows, 0x1FF80 &&& r.mask = r.mask := by
  have h : (rows.map Row.mask).all (fun m => 0x1FF80 &&& m == m) = true := by decide
  intro r hr
  have := List.all_eq_true.mp h r.mask (List.mem_map_of_mem hr)
  exact eq_of_beq this

/-- Whether a row selects a word depends only on its bits 16 to 7. -/
theorem Row.selects_key {r : Row} (hr : r ∈ rows) (c : Caps) (t : Txn) :
    r.selects c (t &&& 0x1FF80) = r.selects c t := by
  unfold Row.selects
  rw [BitVec.and_assoc, rows_mask_key r hr]

/-- The row that is selected depends only on bits 16 to 7 of the word. -/
theorem find_selects_key (c : Caps) (t : Txn) :
    rows.find? (Row.selects c (t &&& 0x1FF80)) = rows.find? (Row.selects c t) := by
  have h : ∀ l : List Row, (∀ r ∈ l, r.selects c (t &&& 0x1FF80) = r.selects c t) →
      l.find? (Row.selects c (t &&& 0x1FF80)) = l.find? (Row.selects c t) := by
    intro l
    induction l with
    | nil => simp
    | cons r l ih =>
      intro hl
      rw [List.find?_cons, List.find?_cons, hl r (by simp), ih (fun q hq => hl q (by simp [hq]))]
  exact h rows (fun r hr => Row.selects_key hr c t)

/-- What a decoded word selects is the first row that matches it. -/
theorem decode_eq_some {c : Caps} {t : Txn} {i : Instr} :
    decode c t = some i ↔ ∃ r, rows.find? (Row.selects c t) = some r ∧ r.build t = i := by
  simp [decode, Option.map_eq_some_iff]

end Sys2Proof
end

