-- ==== Sys2Proof/Laws/Memory.lean ====
section
/-! SUPPORT. The shadow file: a read after a write, and the canonical form. -/

namespace Sys2Proof.Machine

/-- Every address of an empty file reads as the unlisted byte. -/
@[simp] theorem Memory.read_nil (a : Nat) : Memory.read [] a = Memory.unlisted := rfl

/-- A read looks at the first entry, then at the rest. -/
theorem Memory.read_cons (c : Host.Cell) (m : Memory) (a : Nat) :
    Memory.read (c :: m) a = if c.1 = a then c.2 else Memory.read m a := by
  by_cases h : c.1 = a <;> simp [Memory.read, h]

/-- Erasing an entry leaves only the others. -/
theorem Memory.erase_cons (c : Host.Cell) (m : Memory) (a : Nat) :
    Memory.erase (c :: m) a = if c.1 = a then Memory.erase m a else c :: Memory.erase m a := by
  by_cases h : c.1 = a <;> simp [Memory.erase, h]

/-- A read after an erase. -/
theorem Memory.read_erase (m : Memory) (a b : Nat) :
    Memory.read (Memory.erase m a) b = if b = a then Memory.unlisted else Memory.read m b := by
  induction m with
  | nil => simp [Memory.erase]
  | cons c m ih =>
    rw [Memory.erase_cons, Memory.read_cons]
    split_ifs with h1 h2 h3 <;> simp_all [Memory.read_cons]

/-- A read after an insert into a file that has no entry for the address. -/
theorem Memory.read_insert (a : Nat) (v : Byte) (m : Memory) (h : ∀ c ∈ m, c.1 ≠ a) (b : Nat) :
    Memory.read (Memory.insert a v m) b = if b = a then v else Memory.read m b := by
  induction m with
  | nil => simp [Memory.insert, Memory.read_cons, eq_comm]
  | cons c m ih =>
    have hc : c.1 ≠ a := h c (by simp)
    have hm : ∀ d ∈ m, d.1 ≠ a := fun d hd => h d (by simp [hd])
    unfold Memory.insert
    by_cases hlt : a < c.1
    · simp [hlt, Memory.read_cons, eq_comm]
    · rw [if_neg hlt, Memory.read_cons, Memory.read_cons, ih hm]
      by_cases hb : b = a
      · subst hb; simp [hc]
      · simp [hb]

/-- No entry for an erased address is left. -/
theorem Memory.ne_of_mem_erase {m : Memory} {a : Nat} {c : Host.Cell} (h : c ∈ Memory.erase m a) : c.1 ≠ a := by
  simpa [Memory.erase] using (List.mem_filter.mp h).2

/-- A read after a write: the written byte at its own address, every other byte as before (10_state.md R14). -/
theorem Memory.read_write (m : Memory) (a b : Nat) (v : Byte) :
    Memory.read (Memory.write m a v) b = if b = a then v else Memory.read m b := by
  unfold Memory.write
  split
  · next h => rw [Memory.read_erase, h]
  · rw [Memory.read_insert a v _ (fun c hc => Memory.ne_of_mem_erase hc), Memory.read_erase]
    by_cases hb : b = a <;> simp [hb]

/-- The entries after an insert. -/
theorem Memory.mem_insert {a : Nat} {v : Byte} {m : Memory} {c : Host.Cell} :
    c ∈ Memory.insert a v m ↔ c = (a, v) ∨ c ∈ m := by
  induction m with
  | nil => simp [Memory.insert]
  | cons d m ih =>
    unfold Memory.insert
    split
    · simp
    · simp only [List.mem_cons, ih]
      tauto

/-- An insert keeps the addresses strictly rising. -/
theorem Memory.pairwise_insert {a : Nat} {v : Byte} {m : Memory} (h : m.Pairwise (fun c d => c.1 < d.1))
    (hn : ∀ c ∈ m, c.1 ≠ a) : (Memory.insert a v m).Pairwise (fun c d => c.1 < d.1) := by
  induction m with
  | nil => simp [Memory.insert]
  | cons c m ih =>
    obtain ⟨hc, hm⟩ := List.pairwise_cons.mp h
    have hca : c.1 ≠ a := hn c (by simp)
    unfold Memory.insert
    split
    · next hlt =>
      refine List.pairwise_cons.mpr ⟨fun d hd => ?_, h⟩
      rcases List.mem_cons.mp hd with rfl | hd
      · exact hlt
      · exact hlt.trans (hc d hd)
    · next hge =>
      refine List.pairwise_cons.mpr ⟨fun d hd => ?_, ih hm (fun d hd => hn d (by simp [hd]))⟩
      rcases Memory.mem_insert.mp hd with rfl | hd
      · show c.1 < a
        omega
      · exact hc d hd

/-- Erasing an entry keeps the canonical form. -/
theorem Memory.wf_erase {m : Memory} (h : Memory.wf m) (a : Nat) : Memory.wf (Memory.erase m a) :=
  ⟨h.1.filter _, fun c hc => h.2 c (List.mem_filter.mp hc).1⟩

/-- A write inside the port space keeps the canonical form. -/
theorem Memory.wf_write {m : Memory} (h : Memory.wf m) {a : Nat} (ha : a < 256) (v : Byte) :
    Memory.wf (Memory.write m a v) := by
  have he := Memory.wf_erase h a
  unfold Memory.write
  split
  · exact he
  · next hv =>
    refine ⟨Memory.pairwise_insert he.1 (fun c hc => Memory.ne_of_mem_erase hc), fun c hc => ?_⟩
    rcases Memory.mem_insert.mp hc with rfl | hc
    · exact ⟨ha, hv⟩
    · exact he.2 c hc

/-- The empty file has the canonical form. -/
theorem Memory.wf_nil : Memory.wf [] := ⟨List.Pairwise.nil, fun c hc => by simp at hc⟩

/-- The file after reset has the canonical form, whatever the straps. -/
theorem State.resetWith_shadow_wf (c : Caps) : Memory.wf (State.resetWith c).shadow := Memory.wf_nil

/-- `shadow[b]` after `shadow[a] <- v` (10_state.md R14). -/
@[simp] theorem State.readShadow_storeShadow (s : State) (a b v : Byte) :
    (s.storeShadow a v).readShadow b = if b = a then v else s.readShadow b := by
  have h : b.toNat = a.toNat ↔ b = a := BitVec.toNat_inj
  simp [State.readShadow, State.storeShadow, Memory.read_write, h]

/-- A store through the port keeps the canonical form. -/
theorem State.storeShadow_wf {s : State} (h : Memory.wf s.shadow) (a v : Byte) :
    Memory.wf (s.storeShadow a v).shadow := Memory.wf_write h a.isLt v

/-- Two states with the same file read the same. -/
theorem State.readShadow_congr {s t : State} (h : t.shadow = s.shadow) (a : Byte) :
    t.readShadow a = s.readShadow a := by
  simp [State.readShadow, h]

end Sys2Proof.Machine
end

