-- ==== Sys2Proof/Laws/Flags.lean ====
section
/-! SUPPORT. What the two Booleans of Machine/Flags.lean say, and what they look at. -/

namespace Sys2Proof.Machine

/-- The halt output is set exactly when its byte is not zero (10_state.md R18). -/
theorem State.halt_iff (s : State) : s.halt = true ↔ s.readShadow 0x0F ≠ 0x00 := by
  simp [State.halt]

/-- The bounds check (43_screen_page.md R93). -/
theorem State.inBounds_iff (s : State) :
    s.inBounds = true ↔ s.scr.x.toNat < s.pins.surfW.toNat ∧ s.scr.y.toNat < s.pins.surfH.toNat := by
  simp [State.inBounds, BitVec.ult]

/-- The bounds check looks at the cursor and the sampled size only (70_reset_and_hazards.md R151). -/
theorem State.inBounds_congr {s t : State} (hx : t.scr.x = s.scr.x) (hy : t.scr.y = s.scr.y) (hp : t.pins = s.pins) :
    t.inBounds = s.inBounds := by
  simp [State.inBounds, hx, hy, hp]

/-- The draw byte's own shadow store does not touch the bounds check. -/
@[simp] theorem State.inBounds_storeShadow (s : State) (a v : Byte) : (s.storeShadow a v).inBounds = s.inBounds := rfl

/-- A pixel that is in bounds can be stepped past without a wrap (43_screen_page.md R94). -/
theorem State.lt_max_of_inBounds {s : State} (h : s.inBounds = true) :
    s.scr.x.toNat < 0xFFFF ∧ s.scr.y.toNat < 0xFFFF := by
  have hw := s.pins.surfW.isLt
  have hh := s.pins.surfH.isLt
  have := s.inBounds_iff.mp h
  omega

end Sys2Proof.Machine
end

