-- ==== Sys2Proof/Laws/Operands.lean ====
section
/-! SUPPORT. The halves of a 16-bit quantity, the address of a page's port, and the fill rectangle. -/

namespace Sys2Proof.Machine

/-- The bits of a composed register: the low half below bit 8, the high half from bit 8 on. -/
theorem getLsbD_cat16 (h l : Byte) (i : Nat) :
    (cat16 h l).getLsbD i = if i < 8 then l.getLsbD i else h.getLsbD (i - 8) := by
  unfold cat16
  by_cases h8 : i < 8
  · have : i < 16 := by omega
    simp [h8, this]
  · by_cases h16 : i < 16
    · simp [h8, h16, BitVec.getLsbD_of_ge l i (by omega)]
    · simp [h8, BitVec.getLsbD_of_ge h (i - 8) (by omega), h16]

@[simp] theorem hi8_cat16 (h l : Byte) : hi8 (cat16 h l) = h := by
  refine BitVec.eq_of_getLsbD_eq fun i hi => ?_
  have : ¬ 8 + i < 8 := by omega
  simp [hi8, getLsbD_cat16, hi, this]

@[simp] theorem lo8_cat16 (h l : Byte) : lo8 (cat16 h l) = l := by
  refine BitVec.eq_of_getLsbD_eq fun i hi => ?_
  simp [lo8, getLsbD_cat16, hi]

/-- Composing the two halves of a register gives the register back. -/
@[simp] theorem cat16_hi8_lo8 (v : Half) : cat16 (hi8 v) (lo8 v) = v := by
  refine BitVec.eq_of_getLsbD_eq fun i hi => ?_
  rw [getLsbD_cat16]
  by_cases h8 : i < 8
  · simp [h8, lo8]
  · have : i - 8 < 8 := by omega
    have h : 8 + (i - 8) = i := by omega
    simp [h8, hi8, this, h]

/-- The value of a composed register. -/
theorem toNat_cat16 (h l : Byte) : (cat16 h l).toNat = h.toNat * 256 + l.toNat := by
  have hh := h.isLt
  have hl := l.isLt
  unfold cat16
  rw [← BitVec.add_eq_or_of_and_eq_zero]
  · simp [BitVec.toNat_shiftLeft, Nat.shiftLeft_eq]
    omega
  · refine BitVec.eq_of_getLsbD_eq fun i hi => ?_
    by_cases h8 : i < 8
    · simp [h8]
    · simp [BitVec.getLsbD_of_ge l i (by omega)]

/-- An address is its page's nibble followed by its port's. -/
theorem pageAddr_eq_append (p q : BitVec 4) : pageAddr p q = p ++ q := by
  revert p q; decide

/-- The page and the port of an address, as the source writes them (30_encoding.md R46). -/
theorem pg_or_pt (a : Byte) : pg a ||| pt a = a := by
  revert a; decide

/-- Along one axis a fill that is not flipped reaches exactly the edge when the cursor is inside (43_screen_page.md
R95). -/
theorem fillSpan_inside {c size : Half} (h : c.toNat ≤ size.toNat) :
    (fillSpan false c size).1.toNat + (fillSpan false c size).2.toNat = size.toNat := by
  have := size.isLt
  simp only [fillSpan, Bool.false_eq_true, if_false, BitVec.toNat_sub]
  omega

end Sys2Proof.Machine
end

