-- ==== Sys2Proof/Laws/State.lean ====
section
/-! SUPPORT. One lemma per field per update of State, each true by rfl. -/

namespace Sys2Proof.Machine

/-! ### `State.storeShadow` -/

@[simp] theorem State.storeShadow_caps (s : State) (a v : Byte) : (s.storeShadow a v).caps = s.caps := rfl
@[simp] theorem State.storeShadow_shadow (s : State) (a v : Byte) :
    (s.storeShadow a v).shadow = Memory.write s.shadow a.toNat v := rfl
@[simp] theorem State.storeShadow_scr (s : State) (a v : Byte) : (s.storeShadow a v).scr = s.scr := rfl
@[simp] theorem State.storeShadow_fsm (s : State) (a v : Byte) : (s.storeShadow a v).fsm = s.fsm := rfl
@[simp] theorem State.storeShadow_core (s : State) (a v : Byte) : (s.storeShadow a v).core = s.core := rfl
@[simp] theorem State.storeShadow_pins (s : State) (a v : Byte) : (s.storeShadow a v).pins = s.pins := rfl
@[simp] theorem State.storeShadow_accesses (s : State) (a v : Byte) : (s.storeShadow a v).accesses = s.accesses := rfl
@[simp] theorem State.storeShadow_script (s : State) (a v : Byte) : (s.storeShadow a v).script = s.script := rfl
@[simp] theorem State.storeShadow_samples (s : State) (a v : Byte) : (s.storeShadow a v).samples = s.samples := rfl
@[simp] theorem State.storeShadow_accDone (s : State) (a v : Byte) : (s.storeShadow a v).accDone = s.accDone := rfl
@[simp] theorem State.storeShadow_accRdata (s : State) (a v : Byte) : (s.storeShadow a v).accRdata = s.accRdata := rfl
@[simp] theorem State.storeShadow_event (s : State) (a v : Byte) : (s.storeShadow a v).event = s.event := rfl
@[simp] theorem State.storeShadow_sent (s : State) (a v : Byte) : (s.storeShadow a v).sent = s.sent := rfl

/-! ### `State.emit` -/

@[simp] theorem State.emit_caps (s : State) (e : Event) : (s.emit e).caps = s.caps := rfl
@[simp] theorem State.emit_shadow (s : State) (e : Event) : (s.emit e).shadow = s.shadow := rfl
@[simp] theorem State.emit_scr (s : State) (e : Event) : (s.emit e).scr = s.scr := rfl
@[simp] theorem State.emit_fsm (s : State) (e : Event) : (s.emit e).fsm = s.fsm := rfl
@[simp] theorem State.emit_core (s : State) (e : Event) : (s.emit e).core = s.core := rfl
@[simp] theorem State.emit_pins (s : State) (e : Event) : (s.emit e).pins = s.pins := rfl
@[simp] theorem State.emit_accesses (s : State) (e : Event) : (s.emit e).accesses = s.accesses := rfl
@[simp] theorem State.emit_script (s : State) (e : Event) : (s.emit e).script = s.script := rfl
@[simp] theorem State.emit_samples (s : State) (e : Event) : (s.emit e).samples = s.samples := rfl
@[simp] theorem State.emit_accDone (s : State) (e : Event) : (s.emit e).accDone = s.accDone := rfl
@[simp] theorem State.emit_accRdata (s : State) (e : Event) : (s.emit e).accRdata = s.accRdata := rfl
@[simp] theorem State.emit_event (s : State) (e : Event) : (s.emit e).event = some e := rfl
@[simp] theorem State.emit_sent (s : State) (e : Event) : (s.emit e).sent = e :: s.sent := rfl

@[simp] theorem State.emit_readShadow (s : State) (e : Event) (c : Byte) :
    (s.emit e).readShadow c = s.readShadow c := rfl

/-! ### `State.requestConsole` -/

@[simp] theorem State.requestConsole_caps (s : State) (ch : Chan) (v : Byte) :
    (s.requestConsole ch v).caps = s.caps := rfl
@[simp] theorem State.requestConsole_shadow (s : State) (ch : Chan) (v : Byte) :
    (s.requestConsole ch v).shadow = s.shadow := rfl
@[simp] theorem State.requestConsole_scr (s : State) (ch : Chan) (v : Byte) :
    (s.requestConsole ch v).scr = s.scr := rfl
@[simp] theorem State.requestConsole_fsm (s : State) (ch : Chan) (v : Byte) :
    (s.requestConsole ch v).fsm = ⟨.waitCon, s.fsm.pixel⟩ := rfl
@[simp] theorem State.requestConsole_core (s : State) (ch : Chan) (v : Byte) :
    (s.requestConsole ch v).core = s.core := rfl
@[simp] theorem State.requestConsole_pins (s : State) (ch : Chan) (v : Byte) :
    (s.requestConsole ch v).pins = s.pins := rfl
@[simp] theorem State.requestConsole_accesses (s : State) (ch : Chan) (v : Byte) :
    (s.requestConsole ch v).accesses = s.accesses := rfl
@[simp] theorem State.requestConsole_script (s : State) (ch : Chan) (v : Byte) :
    (s.requestConsole ch v).script = s.script := rfl
@[simp] theorem State.requestConsole_samples (s : State) (ch : Chan) (v : Byte) :
    (s.requestConsole ch v).samples = s.samples := rfl
@[simp] theorem State.requestConsole_accDone (s : State) (ch : Chan) (v : Byte) :
    (s.requestConsole ch v).accDone = s.accDone := rfl
@[simp] theorem State.requestConsole_accRdata (s : State) (ch : Chan) (v : Byte) :
    (s.requestConsole ch v).accRdata = s.accRdata := rfl
@[simp] theorem State.requestConsole_event (s : State) (ch : Chan) (v : Byte) :
    (s.requestConsole ch v).event = some (.consoleWrite ch v) := rfl
@[simp] theorem State.requestConsole_sent (s : State) (ch : Chan) (v : Byte) :
    (s.requestConsole ch v).sent = .consoleWrite ch v :: s.sent := rfl

@[simp] theorem State.requestConsole_readShadow (s : State) (ch : Chan) (v : Byte) (c : Byte) :
    (s.requestConsole ch v).readShadow c = s.readShadow c := rfl

/-! ### `State.requestFill` -/

@[simp] theorem State.requestFill_caps (s : State) (p : Bool) (x y w h : Half) (k : BitVec 2) (fg : Bool) :
    (s.requestFill p x y w h k fg).caps = s.caps := rfl
@[simp] theorem State.requestFill_shadow (s : State) (p : Bool) (x y w h : Half) (k : BitVec 2) (fg : Bool) :
    (s.requestFill p x y w h k fg).shadow = s.shadow := rfl
@[simp] theorem State.requestFill_scr (s : State) (p : Bool) (x y w h : Half) (k : BitVec 2) (fg : Bool) :
    (s.requestFill p x y w h k fg).scr = s.scr := rfl
@[simp] theorem State.requestFill_fsm (s : State) (p : Bool) (x y w h : Half) (k : BitVec 2) (fg : Bool) :
    (s.requestFill p x y w h k fg).fsm = ⟨.waitFill, p⟩ := rfl
@[simp] theorem State.requestFill_core (s : State) (p : Bool) (x y w h : Half) (k : BitVec 2) (fg : Bool) :
    (s.requestFill p x y w h k fg).core = s.core := rfl
@[simp] theorem State.requestFill_pins (s : State) (p : Bool) (x y w h : Half) (k : BitVec 2) (fg : Bool) :
    (s.requestFill p x y w h k fg).pins = s.pins := rfl
@[simp] theorem State.requestFill_accesses (s : State) (p : Bool) (x y w h : Half) (k : BitVec 2) (fg : Bool) :
    (s.requestFill p x y w h k fg).accesses = s.accesses := rfl
@[simp] theorem State.requestFill_script (s : State) (p : Bool) (x y w h : Half) (k : BitVec 2) (fg : Bool) :
    (s.requestFill p x y w h k fg).script = s.script := rfl
@[simp] theorem State.requestFill_samples (s : State) (p : Bool) (x y w h : Half) (k : BitVec 2) (fg : Bool) :
    (s.requestFill p x y w h k fg).samples = s.samples := rfl
@[simp] theorem State.requestFill_accDone (s : State) (p : Bool) (x y w h : Half) (k : BitVec 2) (fg : Bool) :
    (s.requestFill p x y w h k fg).accDone = s.accDone := rfl
@[simp] theorem State.requestFill_accRdata (s : State) (p : Bool) (x y w h : Half) (k : BitVec 2) (fg : Bool) :
    (s.requestFill p x y w h k fg).accRdata = s.accRdata := rfl
@[simp] theorem State.requestFill_event (s : State) (p : Bool) (x y w h : Half) (k : BitVec 2) (fg : Bool) :
    (s.requestFill p x y w h k fg).event = some (.surfaceFill x y w h k fg) := rfl
@[simp] theorem State.requestFill_sent (s : State) (p : Bool) (x y w h : Half) (k : BitVec 2) (fg : Bool) :
    (s.requestFill p x y w h k fg).sent = .surfaceFill x y w h k fg :: s.sent := rfl

@[simp] theorem State.requestFill_readShadow (s : State) (p : Bool) (x y w h : Half) (k : BitVec 2) (fg : Bool) (c : Byte) :
    (s.requestFill p x y w h k fg).readShadow c = s.readShadow c := rfl

/-! ### `State.autoIncrement` -/

@[simp] theorem State.autoIncrement_caps (s : State) : s.autoIncrement.caps = s.caps := rfl
@[simp] theorem State.autoIncrement_shadow (s : State) : s.autoIncrement.shadow = s.shadow := rfl
@[simp] theorem State.autoIncrement_scr (s : State) : s.autoIncrement.scr = { s.scr with
      x := if s.scr.autoX then s.scr.x + 1 else s.scr.x
      y := if s.scr.autoY then s.scr.y + 1 else s.scr.y } := rfl
@[simp] theorem State.autoIncrement_fsm (s : State) : s.autoIncrement.fsm = s.fsm := rfl
@[simp] theorem State.autoIncrement_core (s : State) : s.autoIncrement.core = s.core := rfl
@[simp] theorem State.autoIncrement_pins (s : State) : s.autoIncrement.pins = s.pins := rfl
@[simp] theorem State.autoIncrement_accesses (s : State) : s.autoIncrement.accesses = s.accesses := rfl
@[simp] theorem State.autoIncrement_script (s : State) : s.autoIncrement.script = s.script := rfl
@[simp] theorem State.autoIncrement_samples (s : State) : s.autoIncrement.samples = s.samples := rfl
@[simp] theorem State.autoIncrement_accDone (s : State) : s.autoIncrement.accDone = s.accDone := rfl
@[simp] theorem State.autoIncrement_accRdata (s : State) : s.autoIncrement.accRdata = s.accRdata := rfl
@[simp] theorem State.autoIncrement_event (s : State) : s.autoIncrement.event = s.event := rfl
@[simp] theorem State.autoIncrement_sent (s : State) : s.autoIncrement.sent = s.sent := rfl

@[simp] theorem State.autoIncrement_readShadow (s : State) (c : Byte) :
    s.autoIncrement.readShadow c = s.readShadow c := rfl

/-! ### `State.completeWait` -/

@[simp] theorem State.completeWait_caps (s : State) : s.completeWait.caps = s.caps := rfl
@[simp] theorem State.completeWait_shadow (s : State) : s.completeWait.shadow = s.shadow := rfl
@[simp] theorem State.completeWait_scr (s : State) : s.completeWait.scr = s.scr := rfl
@[simp] theorem State.completeWait_fsm (s : State) : s.completeWait.fsm = ⟨.idle, s.fsm.pixel⟩ := rfl
@[simp] theorem State.completeWait_core (s : State) : s.completeWait.core = s.core := rfl
@[simp] theorem State.completeWait_pins (s : State) : s.completeWait.pins = s.pins := rfl
@[simp] theorem State.completeWait_accesses (s : State) : s.completeWait.accesses = s.accesses := rfl
@[simp] theorem State.completeWait_script (s : State) : s.completeWait.script = s.script := rfl
@[simp] theorem State.completeWait_samples (s : State) : s.completeWait.samples = s.samples := rfl
@[simp] theorem State.completeWait_accDone (s : State) : s.completeWait.accDone = true := rfl
@[simp] theorem State.completeWait_accRdata (s : State) : s.completeWait.accRdata = none := rfl
@[simp] theorem State.completeWait_event (s : State) : s.completeWait.event = s.event := rfl
@[simp] theorem State.completeWait_sent (s : State) : s.completeWait.sent = s.sent := rfl

@[simp] theorem State.completeWait_readShadow (s : State) (c : Byte) :
    s.completeWait.readShadow c = s.readShadow c := rfl

/-! ### `State.completeRead` -/

@[simp] theorem State.completeRead_caps (s : State) (b : Byte) : (s.completeRead b).caps = s.caps := rfl
@[simp] theorem State.completeRead_shadow (s : State) (b : Byte) : (s.completeRead b).shadow = s.shadow := rfl
@[simp] theorem State.completeRead_scr (s : State) (b : Byte) : (s.completeRead b).scr = s.scr := rfl
@[simp] theorem State.completeRead_fsm (s : State) (b : Byte) : (s.completeRead b).fsm = s.fsm := rfl
@[simp] theorem State.completeRead_core (s : State) (b : Byte) : (s.completeRead b).core = s.core := rfl
@[simp] theorem State.completeRead_pins (s : State) (b : Byte) : (s.completeRead b).pins = s.pins := rfl
@[simp] theorem State.completeRead_accesses (s : State) (b : Byte) : (s.completeRead b).accesses = s.accesses := rfl
@[simp] theorem State.completeRead_script (s : State) (b : Byte) : (s.completeRead b).script = s.script := rfl
@[simp] theorem State.completeRead_samples (s : State) (b : Byte) : (s.completeRead b).samples = s.samples := rfl
@[simp] theorem State.completeRead_accDone (s : State) (b : Byte) : (s.completeRead b).accDone = true := rfl
@[simp] theorem State.completeRead_accRdata (s : State) (b : Byte) : (s.completeRead b).accRdata = some b := rfl
@[simp] theorem State.completeRead_event (s : State) (b : Byte) : (s.completeRead b).event = s.event := rfl
@[simp] theorem State.completeRead_sent (s : State) (b : Byte) : (s.completeRead b).sent = s.sent := rfl

@[simp] theorem State.completeRead_readShadow (s : State) (b : Byte) (c : Byte) :
    (s.completeRead b).readShadow c = s.readShadow c := rfl

/-! ### `State.finishWrite` -/

@[simp] theorem State.finishWrite_caps (s : State) : s.finishWrite.caps = s.caps := rfl
@[simp] theorem State.finishWrite_shadow (s : State) : s.finishWrite.shadow = s.shadow := rfl
@[simp] theorem State.finishWrite_scr (s : State) : s.finishWrite.scr = s.scr := rfl
@[simp] theorem State.finishWrite_fsm (s : State) : s.finishWrite.fsm = s.fsm := rfl
@[simp] theorem State.finishWrite_core (s : State) : s.finishWrite.core = s.core := rfl
@[simp] theorem State.finishWrite_pins (s : State) : s.finishWrite.pins = s.pins := rfl
@[simp] theorem State.finishWrite_accesses (s : State) : s.finishWrite.accesses = s.accesses := rfl
@[simp] theorem State.finishWrite_script (s : State) : s.finishWrite.script = s.script := rfl
@[simp] theorem State.finishWrite_samples (s : State) : s.finishWrite.samples = s.samples := rfl
@[simp] theorem State.finishWrite_accDone (s : State) : s.finishWrite.accDone = (s.fsm.phase == .idle) := rfl
@[simp] theorem State.finishWrite_accRdata (s : State) : s.finishWrite.accRdata = none := rfl
@[simp] theorem State.finishWrite_event (s : State) : s.finishWrite.event = s.event := rfl
@[simp] theorem State.finishWrite_sent (s : State) : s.finishWrite.sent = s.sent := rfl

@[simp] theorem State.finishWrite_readShadow (s : State) (c : Byte) :
    s.finishWrite.readShadow c = s.readShadow c := rfl

/-! ### `State.composeX` -/

@[simp] theorem State.composeX_caps (s : State) : s.composeX.caps = s.caps := rfl
@[simp] theorem State.composeX_shadow (s : State) : s.composeX.shadow = s.shadow := rfl
@[simp] theorem State.composeX_scr (s : State) :
    s.composeX.scr = { s.scr with x := cat16 (s.readShadow 0x28) (s.readShadow 0x29) } := rfl
@[simp] theorem State.composeX_fsm (s : State) : s.composeX.fsm = s.fsm := rfl
@[simp] theorem State.composeX_core (s : State) : s.composeX.core = s.core := rfl
@[simp] theorem State.composeX_pins (s : State) : s.composeX.pins = s.pins := rfl
@[simp] theorem State.composeX_accesses (s : State) : s.composeX.accesses = s.accesses := rfl
@[simp] theorem State.composeX_script (s : State) : s.composeX.script = s.script := rfl
@[simp] theorem State.composeX_samples (s : State) : s.composeX.samples = s.samples := rfl
@[simp] theorem State.composeX_accDone (s : State) : s.composeX.accDone = s.accDone := rfl
@[simp] theorem State.composeX_accRdata (s : State) : s.composeX.accRdata = s.accRdata := rfl
@[simp] theorem State.composeX_event (s : State) : s.composeX.event = s.event := rfl
@[simp] theorem State.composeX_sent (s : State) : s.composeX.sent = s.sent := rfl

@[simp] theorem State.composeX_readShadow (s : State) (c : Byte) :
    s.composeX.readShadow c = s.readShadow c := rfl

/-! ### `State.composeY` -/

@[simp] theorem State.composeY_caps (s : State) : s.composeY.caps = s.caps := rfl
@[simp] theorem State.composeY_shadow (s : State) : s.composeY.shadow = s.shadow := rfl
@[simp] theorem State.composeY_scr (s : State) :
    s.composeY.scr = { s.scr with y := cat16 (s.readShadow 0x2A) (s.readShadow 0x2B) } := rfl
@[simp] theorem State.composeY_fsm (s : State) : s.composeY.fsm = s.fsm := rfl
@[simp] theorem State.composeY_core (s : State) : s.composeY.core = s.core := rfl
@[simp] theorem State.composeY_pins (s : State) : s.composeY.pins = s.pins := rfl
@[simp] theorem State.composeY_accesses (s : State) : s.composeY.accesses = s.accesses := rfl
@[simp] theorem State.composeY_script (s : State) : s.composeY.script = s.script := rfl
@[simp] theorem State.composeY_samples (s : State) : s.composeY.samples = s.samples := rfl
@[simp] theorem State.composeY_accDone (s : State) : s.composeY.accDone = s.accDone := rfl
@[simp] theorem State.composeY_accRdata (s : State) : s.composeY.accRdata = s.accRdata := rfl
@[simp] theorem State.composeY_event (s : State) : s.composeY.event = s.event := rfl
@[simp] theorem State.composeY_sent (s : State) : s.composeY.sent = s.sent := rfl

@[simp] theorem State.composeY_readShadow (s : State) (c : Byte) :
    s.composeY.readShadow c = s.readShadow c := rfl

/-! ### `State.composeSprite` -/

@[simp] theorem State.composeSprite_caps (s : State) : s.composeSprite.caps = s.caps := rfl
@[simp] theorem State.composeSprite_shadow (s : State) : s.composeSprite.shadow = s.shadow := rfl
@[simp] theorem State.composeSprite_scr (s : State) :
    s.composeSprite.scr = { s.scr with sprite := cat16 (s.readShadow 0x2C) (s.readShadow 0x2D) } := rfl
@[simp] theorem State.composeSprite_fsm (s : State) : s.composeSprite.fsm = s.fsm := rfl
@[simp] theorem State.composeSprite_core (s : State) : s.composeSprite.core = s.core := rfl
@[simp] theorem State.composeSprite_pins (s : State) : s.composeSprite.pins = s.pins := rfl
@[simp] theorem State.composeSprite_accesses (s : State) : s.composeSprite.accesses = s.accesses := rfl
@[simp] theorem State.composeSprite_script (s : State) : s.composeSprite.script = s.script := rfl
@[simp] theorem State.composeSprite_samples (s : State) : s.composeSprite.samples = s.samples := rfl
@[simp] theorem State.composeSprite_accDone (s : State) : s.composeSprite.accDone = s.accDone := rfl
@[simp] theorem State.composeSprite_accRdata (s : State) : s.composeSprite.accRdata = s.accRdata := rfl
@[simp] theorem State.composeSprite_event (s : State) : s.composeSprite.event = s.event := rfl
@[simp] theorem State.composeSprite_sent (s : State) : s.composeSprite.sent = s.sent := rfl

@[simp] theorem State.composeSprite_readShadow (s : State) (c : Byte) :
    s.composeSprite.readShadow c = s.readShadow c := rfl

/-! ### `State.takeSample` -/

@[simp] theorem State.takeSample_caps (s : State) : s.takeSample.caps = s.caps := rfl
@[simp] theorem State.takeSample_shadow (s : State) : s.takeSample.shadow = s.shadow := rfl
@[simp] theorem State.takeSample_scr (s : State) : s.takeSample.scr = s.scr := rfl
@[simp] theorem State.takeSample_fsm (s : State) : s.takeSample.fsm = s.fsm := rfl
@[simp] theorem State.takeSample_core (s : State) :
    s.takeSample.core = ⟨s.nextSample.coreWst.getD s.core.wst, s.nextSample.coreRst.getD s.core.rst⟩ := rfl
@[simp] theorem State.takeSample_pins (s : State) : s.takeSample.pins = s.nextSample.pins := rfl
@[simp] theorem State.takeSample_accesses (s : State) : s.takeSample.accesses = s.accesses := rfl
@[simp] theorem State.takeSample_script (s : State) : s.takeSample.script = s.script.tail := rfl
@[simp] theorem State.takeSample_samples (s : State) : s.takeSample.samples = s.samples + 1 := rfl
@[simp] theorem State.takeSample_accDone (s : State) : s.takeSample.accDone = false := rfl
@[simp] theorem State.takeSample_accRdata (s : State) : s.takeSample.accRdata = none := rfl
@[simp] theorem State.takeSample_event (s : State) : s.takeSample.event = none := rfl
@[simp] theorem State.takeSample_sent (s : State) : s.takeSample.sent = s.sent := rfl

@[simp] theorem State.takeSample_readShadow (s : State) (c : Byte) :
    s.takeSample.readShadow c = s.readShadow c := rfl

/-! ### `State.accept` -/

@[simp] theorem State.accept_caps (s : State) : s.accept.caps = s.caps := rfl
@[simp] theorem State.accept_shadow (s : State) : s.accept.shadow = s.shadow := rfl
@[simp] theorem State.accept_scr (s : State) : s.accept.scr = s.scr := rfl
@[simp] theorem State.accept_fsm (s : State) : s.accept.fsm = s.fsm := rfl
@[simp] theorem State.accept_core (s : State) : s.accept.core = s.core := rfl
@[simp] theorem State.accept_pins (s : State) : s.accept.pins = s.pins := rfl
@[simp] theorem State.accept_accesses (s : State) : s.accept.accesses = s.accesses.tail := rfl
@[simp] theorem State.accept_script (s : State) : s.accept.script = s.script := rfl
@[simp] theorem State.accept_samples (s : State) : s.accept.samples = s.samples := rfl
@[simp] theorem State.accept_accDone (s : State) : s.accept.accDone = s.accDone := rfl
@[simp] theorem State.accept_accRdata (s : State) : s.accept.accRdata = s.accRdata := rfl
@[simp] theorem State.accept_event (s : State) : s.accept.event = s.event := rfl
@[simp] theorem State.accept_sent (s : State) : s.accept.sent = s.sent := rfl

@[simp] theorem State.accept_readShadow (s : State) (c : Byte) :
    s.accept.readShadow c = s.readShadow c := rfl

/-! ### `State.present` -/

@[simp] theorem State.present_caps (s : State) (t : Txn) : (s.present t).caps = s.caps := rfl
@[simp] theorem State.present_shadow (s : State) (t : Txn) : (s.present t).shadow = s.shadow := rfl
@[simp] theorem State.present_scr (s : State) (t : Txn) : (s.present t).scr = s.scr := rfl
@[simp] theorem State.present_fsm (s : State) (t : Txn) : (s.present t).fsm = ⟨.idle, s.fsm.pixel⟩ := rfl
@[simp] theorem State.present_core (s : State) (t : Txn) : (s.present t).core = s.core := rfl
@[simp] theorem State.present_pins (s : State) (t : Txn) : (s.present t).pins = s.pins := rfl
@[simp] theorem State.present_accesses (s : State) (t : Txn) : (s.present t).accesses = t :: s.accesses.tail := rfl
@[simp] theorem State.present_script (s : State) (t : Txn) : (s.present t).script = s.script := rfl
@[simp] theorem State.present_samples (s : State) (t : Txn) : (s.present t).samples = s.samples := rfl
@[simp] theorem State.present_accDone (s : State) (t : Txn) : (s.present t).accDone = s.accDone := rfl
@[simp] theorem State.present_accRdata (s : State) (t : Txn) : (s.present t).accRdata = s.accRdata := rfl
@[simp] theorem State.present_event (s : State) (t : Txn) : (s.present t).event = s.event := rfl
@[simp] theorem State.present_sent (s : State) (t : Txn) : (s.present t).sent = s.sent := rfl

@[simp] theorem State.present_readShadow (s : State) (t : Txn) (c : Byte) :
    (s.present t).readShadow c = s.readShadow c := rfl

end Sys2Proof.Machine
end

