-- ==== Sys2Proof/Laws/Ops.lean ====
section
/-! SUPPORT. What each shared operation of Machine/Ops.lean can do, said once. -/

namespace Sys2Proof.Machine

/-! ### Diagnostics -/

section Diag

variable (s : State) (code : DiagCode) (a v : Byte)

@[simp] theorem State.diag_caps : (s.diag code a v).caps = s.caps := by unfold State.diag; split <;> rfl
@[simp] theorem State.diag_shadow : (s.diag code a v).shadow = s.shadow := by unfold State.diag; split <;> rfl
@[simp] theorem State.diag_scr : (s.diag code a v).scr = s.scr := by unfold State.diag; split <;> rfl
@[simp] theorem State.diag_fsm : (s.diag code a v).fsm = s.fsm := by unfold State.diag; split <;> rfl
@[simp] theorem State.diag_core : (s.diag code a v).core = s.core := by unfold State.diag; split <;> rfl
@[simp] theorem State.diag_pins : (s.diag code a v).pins = s.pins := by unfold State.diag; split <;> rfl
@[simp] theorem State.diag_accesses : (s.diag code a v).accesses = s.accesses := by unfold State.diag; split <;> rfl
@[simp] theorem State.diag_script : (s.diag code a v).script = s.script := by unfold State.diag; split <;> rfl
@[simp] theorem State.diag_samples : (s.diag code a v).samples = s.samples := by unfold State.diag; split <;> rfl
@[simp] theorem State.diag_accDone : (s.diag code a v).accDone = s.accDone := by unfold State.diag; split <;> rfl
@[simp] theorem State.diag_accRdata : (s.diag code a v).accRdata = s.accRdata := by unfold State.diag; split <;> rfl
@[simp] theorem State.diag_readShadow (b : Byte) : (s.diag code a v).readShadow b = s.readShadow b :=
  State.readShadow_congr (State.diag_shadow s code a v) b
@[simp] theorem State.diag_event :
    (s.diag code a v).event = if s.caps.hasDiag then some (.diag code a v) else s.event := by
  unfold State.diag; split <;> rfl
@[simp] theorem State.diag_sent :
    (s.diag code a v).sent = if s.caps.hasDiag then .diag code a v :: s.sent else s.sent := by
  unfold State.diag; split <;> rfl

end Diag

/-! ### The core's stack pointers -/

section CoreWrite

variable (s : State) (sp : CoreReg) (v : Byte)

@[simp] theorem State.coreWrite_caps : (s.coreWrite sp v).caps = s.caps := by cases sp <;> rfl
@[simp] theorem State.coreWrite_shadow : (s.coreWrite sp v).shadow = s.shadow := by cases sp <;> rfl
@[simp] theorem State.coreWrite_scr : (s.coreWrite sp v).scr = s.scr := by cases sp <;> rfl
@[simp] theorem State.coreWrite_fsm : (s.coreWrite sp v).fsm = s.fsm := by cases sp <;> rfl
@[simp] theorem State.coreWrite_core :
    (s.coreWrite sp v).core =
      (match sp with
        | .wst => { s.core with wst := v }
        | .rst => { s.core with rst := v }) := by cases sp <;> rfl
@[simp] theorem State.coreWrite_pins : (s.coreWrite sp v).pins = s.pins := by cases sp <;> rfl
@[simp] theorem State.coreWrite_accesses : (s.coreWrite sp v).accesses = s.accesses := by cases sp <;> rfl
@[simp] theorem State.coreWrite_script : (s.coreWrite sp v).script = s.script := by cases sp <;> rfl
@[simp] theorem State.coreWrite_samples : (s.coreWrite sp v).samples = s.samples := by cases sp <;> rfl
@[simp] theorem State.coreWrite_accDone : (s.coreWrite sp v).accDone = s.accDone := by cases sp <;> rfl
@[simp] theorem State.coreWrite_accRdata : (s.coreWrite sp v).accRdata = s.accRdata := by cases sp <;> rfl
@[simp] theorem State.coreWrite_event : (s.coreWrite sp v).event = some (.coreWrite sp v) := by cases sp <;> rfl
@[simp] theorem State.coreWrite_sent : (s.coreWrite sp v).sent = .coreWrite sp v :: s.sent := by cases sp <;> rfl
@[simp] theorem State.coreWrite_readShadow (b : Byte) : (s.coreWrite sp v).readShadow b = s.readShadow b :=
  State.readShadow_congr (State.coreWrite_shadow s sp v) b

end CoreWrite

/-! ### The sequencer -/

/-- Everything an answer can do (43_screen_page.md R97): nothing in `IDLE` or without an answer; complete; or complete
after the auto-increment, when the surface answered Ok to a pixel draw. -/
theorem State.respond_cases (s : State) :
    (s.fsm.phase = .idle ∧ s.respond = s) ∨
    (s.fsm.phase = .waitCon ∧ s.pins.conRsp = none ∧ s.respond = s) ∨
    (s.fsm.phase = .waitCon ∧ s.pins.conRsp ≠ none ∧ s.respond = s.completeWait) ∨
    (s.fsm.phase = .waitFill ∧ s.pins.fillRsp = none ∧ s.respond = s) ∨
    (s.fsm.phase = .waitFill ∧ s.pins.fillRsp = some true ∧ s.fsm.pixel = true ∧
      s.respond = s.autoIncrement.completeWait) ∨
    (s.fsm.phase = .waitFill ∧ s.pins.fillRsp ≠ none ∧ ¬(s.pins.fillRsp = some true ∧ s.fsm.pixel = true) ∧
      s.respond = s.completeWait) := by
  unfold State.respond
  cases hp : s.fsm.phase with
  | idle => exact .inl ⟨rfl, rfl⟩
  | waitCon => cases hr : s.pins.conRsp <;> simp
  | waitFill =>
    cases hr : s.pins.fillRsp with
    | none => simp
    | some ok => cases ok <;> cases hx : s.fsm.pixel <;> simp

section Respond

variable (s : State)

/-- An answer leaves alone what neither the sequencer nor the cursor is. -/
theorem State.respond_frame :
    s.respond.caps = s.caps ∧ s.respond.shadow = s.shadow ∧ s.respond.core = s.core ∧ s.respond.pins = s.pins ∧
    s.respond.accesses = s.accesses ∧ s.respond.script = s.script ∧ s.respond.samples = s.samples ∧
    s.respond.event = s.event ∧ s.respond.sent = s.sent ∧ s.respond.fsm.pixel = s.fsm.pixel := by
  rcases s.respond_cases with ⟨_, h⟩ | ⟨_, _, h⟩ | ⟨_, _, h⟩ | ⟨_, _, h⟩ | ⟨_, _, _, h⟩ | ⟨_, _, _, h⟩ <;>
    rw [h] <;> simp

@[simp] theorem State.respond_caps : s.respond.caps = s.caps := s.respond_frame.1
@[simp] theorem State.respond_shadow : s.respond.shadow = s.shadow := s.respond_frame.2.1
@[simp] theorem State.respond_core : s.respond.core = s.core := s.respond_frame.2.2.1
@[simp] theorem State.respond_pins : s.respond.pins = s.pins := s.respond_frame.2.2.2.1
@[simp] theorem State.respond_accesses : s.respond.accesses = s.accesses := s.respond_frame.2.2.2.2.1
@[simp] theorem State.respond_script : s.respond.script = s.script := s.respond_frame.2.2.2.2.2.1
@[simp] theorem State.respond_samples : s.respond.samples = s.samples := s.respond_frame.2.2.2.2.2.2.1
@[simp] theorem State.respond_event : s.respond.event = s.event := s.respond_frame.2.2.2.2.2.2.2.1
@[simp] theorem State.respond_sent : s.respond.sent = s.sent := s.respond_frame.2.2.2.2.2.2.2.2.1
@[simp] theorem State.respond_pixel : s.respond.fsm.pixel = s.fsm.pixel := s.respond_frame.2.2.2.2.2.2.2.2.2
@[simp] theorem State.respond_readShadow (a : Byte) : s.respond.readShadow a = s.readShadow a :=
  State.readShadow_congr s.respond_shadow a

/-- The cursor's companions are not touched by an answer. -/
theorem State.respond_scr_rest :
    s.respond.scr.sprite = s.scr.sprite ∧ s.respond.scr.autoX = s.scr.autoX ∧ s.respond.scr.autoY = s.scr.autoY ∧
    s.respond.scr.autoSprite = s.scr.autoSprite ∧ s.respond.scr.length = s.scr.length := by
  rcases s.respond_cases with ⟨_, h⟩ | ⟨_, _, h⟩ | ⟨_, _, h⟩ | ⟨_, _, h⟩ | ⟨_, _, _, h⟩ | ⟨_, _, _, h⟩ <;>
    rw [h] <;> simp

end Respond

/-- What an answer does to the cursor and the sequencer depends on the screen registers, the sequencer and the sampled
answer only. -/
theorem State.respond_congr {s t : State} (hscr : t.scr = s.scr) (hfsm : t.fsm = s.fsm) (hpins : t.pins = s.pins) :
    t.respond.scr = s.respond.scr ∧ t.respond.fsm = s.respond.fsm := by
  unfold State.respond
  rw [hfsm, hpins]
  split
  · exact ⟨hscr, hfsm⟩
  · split <;> simp [hscr, hfsm]
  · split
    · exact ⟨hscr, hfsm⟩
    · split <;> simp [hscr, hfsm]

/-! ### Performing a write -/

/-- A write whose row does not touch the shadow file changes the byte at its own address and no other
(10_state.md R14, 40_dispatch.md R59). -/
theorem State.performWrite_readShadow (s : State) (a v : Byte) (row : State → State)
    (h : (row (s.storeShadow a v)).shadow = (s.storeShadow a v).shadow) (b : Byte) :
    (s.performWrite a v row).readShadow b = if b = a then v else s.readShadow b := by
  have := State.readShadow_congr h b
  simpa [State.performWrite] using this

/-- A write whose row does not touch the shadow file keeps its canonical form. -/
theorem State.performWrite_wf {s : State} (hs : Memory.wf s.shadow) (a v : Byte) (row : State → State)
    (h : (row (s.storeShadow a v)).shadow = (s.storeShadow a v).shadow) :
    Memory.wf (s.performWrite a v row).shadow := by
  have : (s.performWrite a v row).shadow = (s.storeShadow a v).shadow := by simp [State.performWrite, h]
  rw [this]
  exact State.storeShadow_wf hs a v

/-! ### The access port -/

/-- An access is accepted in `IDLE` only, and it is the head of the queue (40_dispatch.md R58). -/
theorem State.presented_eq_some {s : State} {t : Txn} :
    s.presented = some t ↔ s.fsm.phase = .idle ∧ s.accesses.head? = some t := by
  unfold State.presented
  cases s.fsm.phase <;> simp

/-- Sampling the inputs does not change what is presented. -/
@[simp] theorem State.takeSample_presented (s : State) : s.takeSample.presented = s.presented := rfl

end Sys2Proof.Machine
end

