-- ==== Sys2Proof/Laws/PerInstr.lean ====
section
/-! SUPPORT. Statements about every instruction as syntax, one lemma per constructor. -/

namespace Sys2Proof.Laws

/-! ### The fields of a row's word -/

theorem rowWord_isWrite (x : Txn) (v : Byte) : (rowWord x v).isWrite = x.isWrite := by
  simp [rowWord, Txn.isWrite]

theorem rowWord_addr (x : Txn) (v : Byte) : (rowWord x v).addr = x.addr := by
  refine BitVec.eq_of_getLsbD_eq fun i hi => ?_
  simp [rowWord, Txn.addr, hi]

theorem rowWord_data (x : Txn) (v : Byte) : (rowWord x v).data = x.data ||| v := by
  refine BitVec.eq_of_getLsbD_eq fun i hi => ?_
  have : i < 17 := by omega
  simp [rowWord, Txn.data, hi, this]

theorem pageRowWord_isWrite (x : Txn) (p : BitVec 4) (v : Byte) : (pageRowWord x p v).isWrite = x.isWrite := by
  simp [pageRowWord, Txn.isWrite]

theorem pageRowWord_addr (x : Txn) (p : BitVec 4) (v : Byte) :
    (pageRowWord x p v).addr = x.addr ||| p.setWidth 8 := by
  refine BitVec.eq_of_getLsbD_eq fun i hi => ?_
  have h17 : 8 + i < 17 := by omega
  simp [pageRowWord, Txn.addr, hi, h17]

theorem pageRowWord_data (x : Txn) (p : BitVec 4) (v : Byte) : (pageRowWord x p v).data = x.data ||| v := by
  refine BitVec.eq_of_getLsbD_eq fun i hi => ?_
  have : i < 17 := by omega
  simp [pageRowWord, Txn.data, hi, this]

/-- The encoded word of a well-formed instruction carries its direction, its address and its data byte in the
fields `W`, `A` and `D` (30_encoding.md R45). -/
def EncodeFields.Statement (i : Instr) : Prop :=
  ∀ c, i.wellFormed c = true →
    (encode i).isWrite = i.isWrite ∧ (encode i).addr = i.addr ∧ (encode i).data = i.data

/-- The statement for a row whose match value has no data bit. -/
theorem EncodeFields.of_rowWord {i : Instr} {x : Txn} {v : Byte} (he : encode i = rowWord x v)
    (hw : x.isWrite = i.isWrite) (ha : x.addr = i.addr) (hd : x.data ||| v = i.data) : EncodeFields.Statement i :=
  fun _ _ => ⟨by rw [he, rowWord_isWrite, hw], by rw [he, rowWord_addr, ha], by rw [he, rowWord_data, hd]⟩

/-- The statement for a row of an audio or file page. -/
theorem EncodeFields.of_pageRowWord {i : Instr} {x : Txn} {p : BitVec 4} {v : Byte}
    (he : encode i = pageRowWord x p v) (hw : x.isWrite = i.isWrite) (ha : x.addr ||| p.setWidth 8 = i.addr)
    (hd : x.data ||| v = i.data) : EncodeFields.Statement i :=
  fun _ _ => ⟨by rw [he, pageRowWord_isWrite, hw], by rw [he, pageRowWord_addr, ha], by rw [he, pageRowWord_data, hd]⟩

theorem EncodeFields.rdSysWst : EncodeFields.Statement .rdSysWst := fun _ _ => by decide

theorem EncodeFields.rdSysRst : EncodeFields.Statement .rdSysRst := fun _ _ => by decide

theorem EncodeFields.rdScrWidthHi : EncodeFields.Statement .rdScrWidthHi := fun _ _ => by decide

theorem EncodeFields.rdScrWidthLo : EncodeFields.Statement .rdScrWidthLo := fun _ _ => by decide

theorem EncodeFields.rdScrHeightHi : EncodeFields.Statement .rdScrHeightHi := fun _ _ => by decide

theorem EncodeFields.rdScrHeightLo : EncodeFields.Statement .rdScrHeightLo := fun _ _ => by decide

theorem EncodeFields.rdScrXHi : EncodeFields.Statement .rdScrXHi := fun _ _ => by decide

theorem EncodeFields.rdScrXLo : EncodeFields.Statement .rdScrXLo := fun _ _ => by decide

theorem EncodeFields.rdScrYHi : EncodeFields.Statement .rdScrYHi := fun _ _ => by decide

theorem EncodeFields.rdScrYLo : EncodeFields.Statement .rdScrYLo := fun _ _ => by decide

theorem EncodeFields.rdScrSprHi : EncodeFields.Statement .rdScrSprHi := fun _ _ => by decide

theorem EncodeFields.rdScrSprLo : EncodeFields.Statement .rdScrSprLo := fun _ _ => by decide

theorem EncodeFields.rdRtcYearHi : EncodeFields.Statement .rdRtcYearHi := fun _ _ => by decide

theorem EncodeFields.rdRtcYearLo : EncodeFields.Statement .rdRtcYearLo := fun _ _ => by decide

theorem EncodeFields.rdRtcMonth : EncodeFields.Statement .rdRtcMonth := fun _ _ => by decide

theorem EncodeFields.rdRtcDay : EncodeFields.Statement .rdRtcDay := fun _ _ => by decide

theorem EncodeFields.rdRtcHour : EncodeFields.Statement .rdRtcHour := fun _ _ => by decide

theorem EncodeFields.rdRtcMinute : EncodeFields.Statement .rdRtcMinute := fun _ _ => by decide

theorem EncodeFields.rdRtcSecond : EncodeFields.Statement .rdRtcSecond := fun _ _ => by decide

theorem EncodeFields.rdRtcWeekday : EncodeFields.Statement .rdRtcWeekday := fun _ _ => by decide

theorem EncodeFields.rdRtcYdayHi : EncodeFields.Statement .rdRtcYdayHi := fun _ _ => by decide

theorem EncodeFields.rdRtcYdayLo : EncodeFields.Statement .rdRtcYdayLo := fun _ _ => by decide

theorem EncodeFields.rdRtcDst : EncodeFields.Statement .rdRtcDst := fun _ _ => by decide

theorem EncodeFields.rdShadow (a : Byte) : EncodeFields.Statement (.rdShadow a) := by
  refine fun _ _ => ⟨?_, BitVec.eq_of_getLsbD_eq fun i hi => ?_, BitVec.eq_of_getLsbD_eq fun i hi => ?_⟩
  · simp [encode, Txn.isWrite, Instr.isWrite]
  · have : 8 + i < 17 := by omega
    simp [encode, Txn.addr, Instr.addr, hi, this]
  · simp [encode, Txn.data, Instr.data, hi]

theorem EncodeFields.wrSysExpansion (v : Byte) : EncodeFields.Statement (.wrSysExpansion v) :=
  EncodeFields.of_rowWord rfl rfl rfl (BitVec.zero_or)

theorem EncodeFields.wrSysWst (v : Byte) : EncodeFields.Statement (.wrSysWst v) :=
  EncodeFields.of_rowWord rfl rfl rfl (BitVec.zero_or)

theorem EncodeFields.wrSysRst (v : Byte) : EncodeFields.Statement (.wrSysRst v) :=
  EncodeFields.of_rowWord rfl rfl rfl (BitVec.zero_or)

theorem EncodeFields.wrSysDebug (v : Byte) : EncodeFields.Statement (.wrSysDebug v) :=
  EncodeFields.of_rowWord rfl rfl rfl (BitVec.zero_or)

theorem EncodeFields.wrConOut (v : Byte) : EncodeFields.Statement (.wrConOut v) :=
  EncodeFields.of_rowWord rfl rfl rfl (BitVec.zero_or)

theorem EncodeFields.wrConErr (v : Byte) : EncodeFields.Statement (.wrConErr v) :=
  EncodeFields.of_rowWord rfl rfl rfl (BitVec.zero_or)

theorem EncodeFields.wrScrAuto (v : Byte) : EncodeFields.Statement (.wrScrAuto v) :=
  EncodeFields.of_rowWord rfl rfl rfl (BitVec.zero_or)

theorem EncodeFields.wrScrXHi (v : Byte) : EncodeFields.Statement (.wrScrXHi v) :=
  EncodeFields.of_rowWord rfl rfl rfl (BitVec.zero_or)

theorem EncodeFields.wrScrXLo (v : Byte) : EncodeFields.Statement (.wrScrXLo v) :=
  EncodeFields.of_rowWord rfl rfl rfl (BitVec.zero_or)

theorem EncodeFields.wrScrYHi (v : Byte) : EncodeFields.Statement (.wrScrYHi v) :=
  EncodeFields.of_rowWord rfl rfl rfl (BitVec.zero_or)

theorem EncodeFields.wrScrYLo (v : Byte) : EncodeFields.Statement (.wrScrYLo v) :=
  EncodeFields.of_rowWord rfl rfl rfl (BitVec.zero_or)

theorem EncodeFields.wrScrSprHi (v : Byte) : EncodeFields.Statement (.wrScrSprHi v) :=
  EncodeFields.of_rowWord rfl rfl rfl (BitVec.zero_or)

theorem EncodeFields.wrScrSprLo (v : Byte) : EncodeFields.Statement (.wrScrSprLo v) :=
  EncodeFields.of_rowWord rfl rfl rfl (BitVec.zero_or)

theorem EncodeFields.wrScrDrawPixel (v : Byte) : EncodeFields.Statement (.wrScrDrawPixel v) :=
  EncodeFields.of_rowWord rfl rfl rfl (BitVec.zero_or)

theorem EncodeFields.wrScrDrawFill (v : Byte) : EncodeFields.Statement (.wrScrDrawFill v) := by
  intro c h
  have h7 : 0x80#8 ||| v = v := by
    have hv : v.getLsbD 7 = true := by simp_all [Instr.wellFormed]
    clear h
    revert v; decide
  exact EncodeFields.of_rowWord (i := .wrScrDrawFill v) rfl rfl rfl h7 c h

theorem EncodeFields.wrAudioP3 (port : BitVec 4) (v : Byte) : EncodeFields.Statement (.wrAudioP3 port v) :=
  EncodeFields.of_pageRowWord rfl rfl (by simp only [Instr.addr]; revert port; decide) (BitVec.zero_or)

theorem EncodeFields.wrAudioP4 (port : BitVec 4) (v : Byte) : EncodeFields.Statement (.wrAudioP4 port v) :=
  EncodeFields.of_pageRowWord rfl rfl (by simp only [Instr.addr]; revert port; decide) (BitVec.zero_or)

theorem EncodeFields.wrAudioP5 (port : BitVec 4) (v : Byte) : EncodeFields.Statement (.wrAudioP5 port v) :=
  EncodeFields.of_pageRowWord rfl rfl (by simp only [Instr.addr]; revert port; decide) (BitVec.zero_or)

theorem EncodeFields.wrAudioP6 (port : BitVec 4) (v : Byte) : EncodeFields.Statement (.wrAudioP6 port v) :=
  EncodeFields.of_pageRowWord rfl rfl (by simp only [Instr.addr]; revert port; decide) (BitVec.zero_or)

theorem EncodeFields.wrFilePa (port : BitVec 4) (v : Byte) : EncodeFields.Statement (.wrFilePa port v) :=
  EncodeFields.of_pageRowWord rfl rfl (by simp only [Instr.addr]; revert port; decide) (BitVec.zero_or)

theorem EncodeFields.wrFilePb (port : BitVec 4) (v : Byte) : EncodeFields.Statement (.wrFilePb port v) :=
  EncodeFields.of_pageRowWord rfl rfl (by simp only [Instr.addr]; revert port; decide) (BitVec.zero_or)

theorem EncodeFields.wrShadow (a : Byte) (v : Byte) : EncodeFields.Statement (.wrShadow a v) := by
  have hw : ∀ a : Byte, (0x10000 ||| (a.setWidth 17 <<< 8) : Txn).isWrite = true := by decide
  have ha : ∀ a : Byte, (0x10000 ||| (a.setWidth 17 <<< 8) : Txn).addr = a := by decide
  have hd : ∀ a : Byte, (0x10000 ||| (a.setWidth 17 <<< 8) : Txn).data = 0 := by decide
  exact EncodeFields.of_rowWord rfl (hw a) (ha a) (by rw [hd a]; exact BitVec.zero_or)

end Sys2Proof.Laws
end

