-- ==== Sys2Proof/Laws/Run.lean ====
section
/-! SUPPORT. Runs of the machine, one step at a time. -/

namespace Sys2Proof.Machine

/-- A run of no steps. -/
theorem run_zero (s : State) : Host.Core.run Sys2Proof.core 0 s = .next s := rfl

/-- A run whose first step answers a next state goes on from it. -/
theorem run_succ_of_step {k : Nat} {s m : State} (h : step s = .next m) :
    Host.Core.run Sys2Proof.core (k + 1) s = Host.Core.run Sys2Proof.core k m := by
  have h' : Sys2Proof.core.step s = .next m := h
  simp only [Host.Core.run, h']

/-- A run of `k + 1` steps that ends in a state has a first step and a run of `k` steps from there. -/
theorem run_succ_inv {k : Nat} {s u : State} (h : Host.Core.run Sys2Proof.core (k + 1) s = .next u) :
    ∃ m, step s = .next m ∧ Host.Core.run Sys2Proof.core k m = .next u := by
  cases hs : step s with
  | next m => exact ⟨m, rfl, (run_succ_of_step hs).symm.trans h⟩
  | fault r => exact nomatch r
  | refused r =>
    have h' : Sys2Proof.core.step s = .refused r := hs
    simp only [Host.Core.run, h'] at h
    cases h

end Sys2Proof.Machine
end

