-- ==== Sys2Proof/Laws/Step.lean ====
section
/-! SUPPORT. What a step does, said once: it takes an answer, or it performs the presented access. -/

namespace Sys2Proof.Machine

/-- No access is presented: the step samples the inputs and takes the answer, if there is one
(43_screen_page.md R97). -/
theorem step_of_presented_none {s : State} (h : s.presented = none) : step s = .next s.takeSample.respond := by
  simp [step, h]

/-- An access is presented and selects `i`: the step is `exec i` (40_dispatch.md R58). -/
theorem step_of_presented {s : State} {t : Txn} {i : Instr} (h : s.presented = some t)
    (hd : decode s.caps t = some i) : step s = exec i s.takeSample.accept := by
  simp [step, h, hd]

end Sys2Proof.Machine
end

