-- ==== Sys2Proof/Tests/Slice0.lean ====
section
/-! SUPPORT. Tests: the WellFormed smoke test, the decoding of words written out from 30_encoding.md R45 and R54, one-step
checks against 95_test_vectors.md, and a witness for the hypotheses of every statement that has some. Every expected
result comes from the spec. -/

namespace Sys2Proof.Tests

open Sys2Proof.Machine

/-! ### WellFormed: one ill-formed term per check -/

/-- Every capability present (95_test_vectors.md section 0). -/
def full : Caps := ⟨true, true, true, true⟩
def noConsole : Caps := ⟨false, true, true, true⟩
def noScreen : Caps := ⟨true, false, true, true⟩
def noClock : Caps := ⟨true, true, false, true⟩
def noDiag : Caps := ⟨true, true, true, false⟩

theorem test_illFormed_console_absent :
    Instr.wellFormed noConsole (.wrConOut 0x48) = false ∧ Instr.wellFormed noConsole (.wrConErr 0x48) = false := by decide
theorem test_illFormed_screen_absent :
    Instr.wellFormed noScreen .rdScrWidthHi = false ∧ Instr.wellFormed noScreen .rdScrSprLo = false ∧
    Instr.wellFormed noScreen (.wrScrAuto 0x01) = false ∧ Instr.wellFormed noScreen (.wrScrYHi 0x01) = false ∧
    Instr.wellFormed noScreen (.wrScrDrawPixel 0x01) = false ∧
    Instr.wellFormed noScreen (.wrScrDrawFill 0x81) = false := by decide
theorem test_illFormed_clock_absent :
    Instr.wellFormed noClock .rdRtcYearHi = false ∧ Instr.wellFormed noClock .rdRtcDst = false := by decide
theorem test_illFormed_pixel_with_fill_bit : Instr.wellFormed full (.wrScrDrawPixel 0x80) = false := by decide
theorem test_illFormed_fill_without_fill_bit : Instr.wellFormed full (.wrScrDrawFill 0x7F) = false := by decide
theorem test_illFormed_default_read :
    Instr.wellFormed full (.rdShadow 0x05) = false ∧ Instr.wellFormed full (.rdShadow 0x22) = false ∧
    Instr.wellFormed full (.rdShadow 0x2D) = false ∧ Instr.wellFormed full (.rdShadow 0xCA) = false := by decide
theorem test_illFormed_default_write :
    Instr.wellFormed full (.wrShadow 0x03 0) = false ∧ Instr.wellFormed full (.wrShadow 0x19 0) = false ∧
    Instr.wellFormed full (.wrShadow 0x2E 0) = false ∧ Instr.wellFormed full (.wrShadow 0x30 0) = false ∧
    Instr.wellFormed full (.wrShadow 0x6F 0) = false ∧ Instr.wellFormed full (.wrShadow 0xA0 0) = false ∧
    Instr.wellFormed full (.wrShadow 0xBF 0) = false := by decide
theorem test_wellFormed_defaults_beside_them :
    Instr.wellFormed full (.rdShadow 0x03) = true ∧ Instr.wellFormed full (.rdShadow 0x26) = true ∧
    Instr.wellFormed full (.rdShadow 0xCB) = true ∧ Instr.wellFormed full (.wrShadow 0x2F 0) = true ∧
    Instr.wellFormed full (.wrShadow 0x70 0) = true ∧ Instr.wellFormed full (.wrShadow 0xC0 0) = true := by decide

/-! ### Decoding: a word of every row, from 30_encoding.md R45 and R54 -/

/-- Bit by bit (R45): W = 1 in bit 16, A = 0x2E in bits 15 to 8, D = 0x81 in bits 7 to 0. -/
theorem test_decode_bits_draw_fill : decode full 0b1_0010_1110_1000_0001 = some (.wrScrDrawFill 0x81) := by decide
/-- Bit by bit (R45): W = 0, A = 0xC4, D = 0. -/
theorem test_decode_bits_hour : decode full 0b0_1100_0100_0000_0000 = some .rdRtcHour := by decide

theorem test_decode_system :
    [0x00400, 0x005FF, 0x10300, 0x10410, 0x105FF, 0x10E01].map (decode full) =
    [some .rdSysWst, some .rdSysRst, some (.wrSysExpansion 0x00), some (.wrSysWst 0x10), some (.wrSysRst 0xFF),
      some (.wrSysDebug 0x01)] := by decide
theorem test_decode_console :
    [0x11848, 0x11921].map (decode full) = [some (.wrConOut 0x48), some (.wrConErr 0x21)] := by decide
theorem test_decode_screen_reads :
    [0x02200, 0x02300, 0x02400, 0x02500, 0x02800, 0x02900, 0x02A00, 0x02B00, 0x02C00, 0x02D00].map (decode full) =
    [some .rdScrWidthHi, some .rdScrWidthLo, some .rdScrHeightHi, some .rdScrHeightLo, some .rdScrXHi, some .rdScrXLo,
      some .rdScrYHi, some .rdScrYLo, some .rdScrSprHi, some .rdScrSprLo] := by decide
theorem test_decode_screen_writes :
    [0x126FF, 0x12812, 0x12934, 0x12A01, 0x12B00, 0x12C03, 0x12D40, 0x12E7F, 0x12E80].map (decode full) =
    [some (.wrScrAuto 0xFF), some (.wrScrXHi 0x12), some (.wrScrXLo 0x34), some (.wrScrYHi 0x01), some (.wrScrYLo 0x00),
      some (.wrScrSprHi 0x03), some (.wrScrSprLo 0x40), some (.wrScrDrawPixel 0x7F),
      some (.wrScrDrawFill 0x80)] := by decide
theorem test_decode_stub_pages :
    [0x13F80, 0x14001, 0x15A00, 0x16FFF, 0x1A800, 0x1BF12].map (decode full) =
    [some (.wrAudioP3 0xF 0x80), some (.wrAudioP4 0x0 0x01), some (.wrAudioP5 0xA 0x00), some (.wrAudioP6 0xF 0xFF),
      some (.wrFilePa 0x8 0x00), some (.wrFilePb 0xF 0x12)] := by decide
theorem test_decode_clock :
    [0x0C000, 0x0C100, 0x0C200, 0x0C300, 0x0C400, 0x0C500, 0x0C600, 0x0C700, 0x0C800, 0x0C900, 0x0CA00].map
      (decode full) =
    [some .rdRtcYearHi, some .rdRtcYearLo, some .rdRtcMonth, some .rdRtcDay, some .rdRtcHour, some .rdRtcMinute,
      some .rdRtcSecond, some .rdRtcWeekday, some .rdRtcYdayHi, some .rdRtcYdayLo, some .rdRtcDst] := by decide
theorem test_decode_defaults :
    [0x00300, 0x02E00, 0x0CB00, 0x03F00, 0x17011, 0x1C055, 0x10F01, 0x10812, 0x12255, 0x11207].map (decode full) =
    [some (.rdShadow 0x03), some (.rdShadow 0x2E), some (.rdShadow 0xCB), some (.rdShadow 0x3F),
      some (.wrShadow 0x70 0x11), some (.wrShadow 0xC0 0x55), some (.wrShadow 0x0F 0x01), some (.wrShadow 0x08 0x12),
      some (.wrShadow 0x22 0x55), some (.wrShadow 0x12 0x07)] := by decide
theorem test_decode_absent :
    decode noScreen 0x12E00 = some (.wrShadow 0x2E 0x00) ∧ decode noScreen 0x02800 = some (.rdShadow 0x28) ∧
    decode noConsole 0x11800 = some (.wrShadow 0x18 0x00) ∧ decode noClock 0x0C000 = some (.rdShadow 0xC0) := by decide
/-- R54: every row's own match word selects an instruction with that row's encoding, in the table's order. -/
theorem test_decode_every_match_value :
    rows.map (fun r => (decode full r.value).map encode) = rows.map (fun r => some r.value) := by decide
/-- 30_encoding.md R45: a number above 17 bits is no transaction word (log entry 13). -/
theorem test_decodeTableWord :
    decodeTableWord 24 0x12E81 = some (.wrScrDrawFill 0x81) ∧ decodeTableWord 24 0x20000 = none := by decide

/-! ### One access, against 95_test_vectors.md -/

/-- The clock of 95_test_vectors.md section 0. -/
def clock : Rtc := ⟨0x07EA, 0x0A, 0x0A, 0x11, 0x05, 0x09, 0x03, 0x013A⟩

/-- The inputs of 95_test_vectors.md section 0: the surface, every answer Ok, the clock. -/
def inputs : Pins := ⟨0x00A0, 0x0090, some true, some true, clock⟩

/-- The start state of 95_test_vectors.md section 0, with its inputs sampled. -/
def start : State := { State.resetWith full with pins := inputs }

/-- The start state with a cursor and an auto byte's two flags. -/
def cursor (x y : Half) (ax ay : Bool) : State := { start with scr := ⟨x, y, 0, ax, ay, false, 0⟩ }

/-- A field of the next state, if there is one. -/
def after {α : Type} (o : Outcome) (f : State → α) : Option α :=
  match o with
  | .next s => some (f s)
  | .fault _ => none
  | .refused _ => none

/-- One access and then another. -/
def andThen (o : Outcome) (i : Instr) : Outcome :=
  match o with
  | .next s => exec i s
  | .fault r => .fault r
  | .refused r => .refused r

-- 2.2 System page
theorem test_rdSysWst :
    after (exec .rdSysWst { start with core := ⟨0x03, 0x00⟩ }) (·.accRdata) = some (some 0x03) := by decide
theorem test_rdSysRst :
    after (exec .rdSysRst { start with core := ⟨0x03, 0x07⟩ }) (·.accRdata) = some (some 0x07) := by decide
theorem test_wrSysWst :
    after (exec (.wrSysWst 0x10) { start with core := ⟨0x03, 0x07⟩ }) (fun t => (t.core, t.event, t.readShadow 0x04)) =
      some (⟨0x10, 0x07⟩, some (.coreWrite .wst 0x10), 0x10) := by decide
theorem test_wrSysRst :
    after (exec (.wrSysRst 0xFF) { start with core := ⟨0x03, 0x07⟩ }) (fun t => (t.core, t.event, t.readShadow 0x05)) =
      some (⟨0x03, 0xFF⟩, some (.coreWrite .rst 0xFF), 0xFF) := by decide
theorem test_wrSysExpansion :
    after (exec (.wrSysExpansion 0x01) start) (fun t => (t.event, t.readShadow 0x03)) =
      some (some (.diag .expansion 0x03 0x01), 0x01) ∧
    after (exec (.wrSysExpansion 0x00) start) (·.event) = some none := by decide
theorem test_wrSysExpansion_no_sink :
    after (exec (.wrSysExpansion 0x01) { start with caps := noDiag }) (fun t => (t.event, t.readShadow 0x03)) =
      some (none, 0x01) := by decide
theorem test_wrSysDebug :
    after (exec (.wrSysDebug 0x01) start) (·.event) = some (some (.diag .stackDump 0x0E 0x01)) ∧
    after (exec (.wrSysDebug 0x00) start) (·.event) = some none := by decide

-- 2.3 Console page
theorem test_wrConOut_ok :
    after (exec (.wrConOut 0x48) start) (fun t => (t.conPort, t.fsm.phase, t.accDone, t.readShadow 0x18)) =
      some (some (0, 0x48), .idle, true, 0x48) := by decide
theorem test_wrConOut_never_answered :
    after (exec (.wrConOut 0x48) { start with pins := { inputs with conRsp := none } })
      (fun t => (t.event, t.fsm.phase, t.accDone)) =
      some (some (.consoleWrite .out 0x48), .waitCon, false) := by decide
theorem test_wrConErr :
    after (exec (.wrConErr 0x21) { start with pins := { inputs with conRsp := some false } })
      (fun t => (t.conPort, t.fsm.phase, t.accDone, t.readShadow 0x19)) =
      some (some (1, 0x21), .idle, true, 0x21) := by decide

-- 2.4 Screen reads, composition and auto byte
theorem test_screen_size_reads :
    [Instr.rdScrWidthHi, .rdScrWidthLo, .rdScrHeightHi, .rdScrHeightLo].map (fun i => after (exec i
      { start with pins := { inputs with surfW := 0x1234, surfH := 0x5678 } }) (·.accRdata)) =
      [some (some 0x12), some (some 0x34), some (some 0x56), some (some 0x78)] := by decide
theorem test_screen_register_reads :
    [Instr.rdScrXHi, .rdScrXLo, .rdScrYHi, .rdScrYLo, .rdScrSprHi, .rdScrSprLo].map (fun i => after (exec i
      { start with scr := ⟨0x0102, 0x0304, 0x0506, false, false, false, 0⟩ }) (·.accRdata)) =
      [some (some 0x01), some (some 0x02), some (some 0x03), some (some 0x04), some (some 0x05),
        some (some 0x06)] := by decide
theorem test_wrScrXLo_then_XHi :
    after (exec (.wrScrXLo 0x34) start) (·.scr.x) = some 0x0034 ∧
    after (andThen (exec (.wrScrXLo 0x34) start) (.wrScrXHi 0x12)) (·.scr.x) = some 0x1234 := by decide
theorem test_wrScrY :
    after (andThen (exec (.wrScrYHi 0x01) start) (.wrScrYLo 0x02)) (·.scr.y) = some 0x0102 := by decide
theorem test_wrScrSpr :
    after (andThen (exec (.wrScrSprHi 0x03) start) (.wrScrSprLo 0x40)) (·.scr.sprite) = some 0x0340 := by decide
theorem test_wrScrAuto :
    after (exec (.wrScrAuto 0x31) start) (·.scr) = some ⟨0, 0, 0, true, false, false, 3⟩ ∧
    after (exec (.wrScrAuto 0x0C) start) (fun t => (t.scr, t.scrLength, t.scrAutoSprite)) =
      some (⟨0, 0, 0, false, false, true, 0⟩, 0, true) := by decide
/-- 2.4, last row: the stale low half discards the increment (R145). -/
theorem test_half_write_after_increment :
    after (andThen (andThen (exec (.wrScrXLo 0xFF) { start with scr := ⟨0, 0, 0, true, false, false, 0⟩, pins :=
      { inputs with surfW := 0x0140 } }) (.wrScrDrawPixel 0x01)) (.wrScrXLo 0x05)) (·.scr.x) = some 0x0005 := by decide

-- 2.5 Pixel draw
theorem test_wrScrDrawPixel_ok :
    after (exec (.wrScrDrawPixel 0x73) (cursor 0x10 0x20 true true)) (fun t => (t.event, t.scr.x, t.scr.y)) =
      some (some (.surfaceFill 0x10 0x20 1 1 3 true), 0x11, 0x21) := by decide
theorem test_wrScrDrawPixel_err_and_edge :
    after (exec (.wrScrDrawPixel 0x01) { cursor 0x10 0x20 true true with pins := { inputs with fillRsp := some false } })
      (fun t => (t.event, t.scr.x, t.scr.y)) = some (some (.surfaceFill 0x10 0x20 1 1 1 false), 0x10, 0x20) ∧
    after (exec (.wrScrDrawPixel 0x01) (cursor 0xA0 0x10 true false)) (fun t => (t.event, t.scr.x)) =
      some (none, 0xA0) := by decide

-- 2.6 Fill draw
theorem test_wrScrDrawFill_flips :
    [0x81, 0x91, 0xA1, 0xB1].map (fun v => after (exec (.wrScrDrawFill v) (cursor 0x0A 0x14 true true)) (·.event)) =
      [some (some (.surfaceFill 0x0A 0x14 0x96 0x7C 1 false)), some (some (.surfaceFill 0x00 0x14 0x0A 0x7C 1 false)),
        some (some (.surfaceFill 0x0A 0x00 0x96 0x14 1 false)),
        some (some (.surfaceFill 0x00 0x00 0x0A 0x14 1 false))] := by decide
theorem test_wrScrDrawFill_wraps :
    after (exec (.wrScrDrawFill 0x80) (cursor 0xC8 0x14 true true)) (fun t => (t.event, t.scr.x)) =
      some (some (.surfaceFill 0xC8 0x14 0xFFD8 0x7C 0 false), 0xC8) := by decide

-- 2.7 Audio and file stubs
theorem test_stub_writes :
    [Instr.wrAudioP3 0xF 0x80, .wrAudioP4 0x0 0x01, .wrAudioP5 0xA 0x00, .wrAudioP6 0xF 0xFF, .wrFilePa 0x8 0x00,
      .wrFilePb 0xF 0x12].map (fun i => after (exec i start) (·.diagPort)) =
    [some (some (2, 0x3F, 0x80)), some (some (2, 0x40, 0x01)), some (some (2, 0x5A, 0x00)), some (some (2, 0x6F, 0xFF)),
      some (some (3, 0xA8, 0x00)), some (some (3, 0xBF, 0x12))] := by decide
theorem test_stub_write_read_back :
    after (andThen (exec (.wrAudioP3 0xF 0x80) start) (.rdShadow 0x3F)) (·.accRdata) = some (some 0x80) := by decide

-- 2.8 Clock page
theorem test_clock_reads :
    [Instr.rdRtcYearHi, .rdRtcYearLo, .rdRtcMonth, .rdRtcDay, .rdRtcHour, .rdRtcMinute, .rdRtcSecond, .rdRtcWeekday,
      .rdRtcYdayHi, .rdRtcYdayLo].map (fun i => after (exec i start) (·.accRdata)) =
    [some (some 0x07), some (some 0xEA), some (some 0x0A), some (some 0x0A), some (some 0x11), some (some 0x05),
      some (some 0x09), some (some 0x03), some (some 0x01), some (some 0x3A)] := by decide
theorem test_rdRtcDst :
    after (andThen (exec (.wrShadow 0xCA 0x01) start) .rdRtcDst) (fun t => (t.accRdata, t.event)) =
      some (some 0x01, some (.diag .rtcDstRead 0xCA 0x01)) := by decide

-- 2.9 Palette codec (the memories are canonical lists)
theorem test_palette_example :
    (fun t : State => (t.palette0, t.palette1, t.palette2, t.palette3))
      { start with shadow := [(8, 0x12), (9, 0x34), (10, 0x56), (11, 0x78), (12, 0x9A)] } =
      (0x03E, 0x056, 0x0BC, 0x09A) := by decide
theorem test_palette_bit_eight :
    (fun t : State => (t.palette0, t.palette1, t.palette2, t.palette3)) { start with shadow := [(8, 0x80)] } =
      (0x100, 0x000, 0x000, 0x000) := by decide
theorem test_palette_mixed :
    (fun t : State => (t.palette0, t.palette1, t.palette2, t.palette3))
      { start with shadow := [(8, 0xA5), (9, 0x5A), (10, 0xC3), (11, 0x3C), (12, 0x0F)] } =
      (0x16F, 0x0C3, 0x19E, 0x00F) := by decide

-- V-EX-1, V-EX-6
theorem test_rdShadow_after_write :
    after (andThen (exec (.wrShadow 0x08 0xC3) start) (.rdShadow 0x08)) (·.accRdata) = some (some 0xC3) := by decide
theorem test_wrShadow_halt :
    after (exec (.wrShadow 0x0F 0x80) start) (·.halt) = some true ∧
    after (andThen (exec (.wrShadow 0x0F 0x01) start) (.wrShadow 0x0F 0x00)) (fun t => (t.halt, t.shadow)) =
      some (false, []) := by decide

/-! ### One step -/

/-- What the environment presents at a step: the inputs of section 0, and the core leaves its pointers alone. -/
def sample : Sample := ⟨inputs, none, none⟩

/-- A sample without any answer. -/
def silent : Sample := ⟨{ inputs with conRsp := none, fillRsp := none }, none, none⟩

/-- The reset state of a build, its accesses and its samples. -/
def bench (c : Caps) (ts : List Txn) (xs : List Sample) : State :=
  { State.resetWith c with accesses := ts, script := xs }

/-- A wait phase with its samples to come. -/
def waiting (ph : Phase) (px : Bool) (xs : List Sample) : State :=
  { bench full [0x10F01] xs with fsm := ⟨ph, px⟩ }

/-- P2, step 6, in one step. -/
theorem test_step_pixel :
    after (step { bench full [0x12E02] [sample] with scr := ⟨0x9D, 0x10, 0, true, false, false, 0⟩ })
      (fun t => (t.event, t.scr.x, t.accesses, t.accDone)) =
      some (some (.surfaceFill 0x9D 0x10 1 1 2 false), 0x9E, [], true) := by decide
/-- P4, step 3: the core has pushed before the read. -/
theorem test_step_core_moves :
    after (step (bench full [0x00400] [⟨inputs, some 0x11, none⟩])) (fun t => (t.accRdata, t.core.wst)) =
      some (some 0x11, 0x11) := by decide
/-- 2.5, last row, then the late answer: the cursor steps when the Ok arrives. -/
theorem test_step_late_answer :
    after (step (bench full [0x12E01] [silent])) (fun t => (t.fsm.phase, t.accDone)) = some (.waitFill, false) ∧
    after (step { waiting .waitFill true [sample] with scr := ⟨0x10, 0x20, 0, true, false, false, 0⟩ })
      (fun t => (t.fsm.phase, t.accDone, t.scr.x, t.accesses)) = some (.idle, true, 0x11, [0x10F01]) := by decide
/-- 10_state.md R20: two samples, of which the second moves both pointers and the first only one. -/
theorem test_coreMoves :
    coreMoves ⟨0x03, 0x07⟩ [⟨inputs, some 0x10, none⟩, ⟨inputs, some 0x11, some 0x08⟩] = ⟨0x11, 0x08⟩ ∧
    coreMoves ⟨0x03, 0x07⟩ [silent, sample] = ⟨0x03, 0x07⟩ := by decide
/-- R138: without an answer nothing more is accepted. -/
theorem test_step_hang :
    after (step (waiting .waitCon false [silent])) (fun t => (t.fsm.phase, t.accDone, t.accesses)) =
      some (.waitCon, false, [0x10F01]) := by decide
/-- The host's use of the fixed names, on one word. -/
theorem test_step_withFetchWord :
    after (step ({ State.reset with script := [sample] }.withFetchWord 24 0x10410)) (·.core.wst) = some 0x10 := by decide

/-! ### Witnesses: for every statement with hypotheses, states and operands that meet them together -/

theorem witness_DecodeOfEncode :
    Instr.wellFormed full (.wrScrDrawPixel 0x7F) = true ∧ Instr.wellFormed full (.wrScrDrawFill 0x80) = true ∧
    Instr.wellFormed noScreen (.rdShadow 0x22) = true ∧ Instr.wellFormed full (.wrFilePb 0xF 0xFF) = true := by decide
theorem witness_ReadDataIgnoredByDecode : Txn.isWrite 0x0FFFF = false := by decide
/-- Each of the three pages at both ends, as a read and as a write. -/
theorem witness_AbsentCapabilityIsShadowOnly :
    (pg (Txn.addr 0x01000) = 0x10 ∧ pg (Txn.addr 0x11FFF) = 0x10 ∧ noConsole.hasConsole = false) ∧
    (pg (Txn.addr 0x02000) = 0x20 ∧ pg (Txn.addr 0x12FFF) = 0x20 ∧ noScreen.hasScreen = false) ∧
    (pg (Txn.addr 0x0C000) = 0xC0 ∧ pg (Txn.addr 0x1CFFF) = 0xC0 ∧ noClock.hasClock = false) := by decide
theorem witness_StepRunsDecodedAccess :
    (bench full [0x12E81, 0x00400] [sample]).fsm.phase = .idle ∧
    (bench full [0x12E81, 0x00400] [sample]).accesses.head? = some 0x12E81 ∧
    decode (bench full [0x12E81, 0x00400] [sample]).caps 0x12E81 = some (.wrScrDrawFill 0x81) := by decide
theorem witness_AnswerCompletesTheWait :
    ((waiting .waitCon false [sample]).fsm.phase = .waitCon ∧
      (waiting .waitCon false [sample]).nextSample.pins.conRsp ≠ none) ∧
    ((waiting .waitFill true [sample]).fsm.phase = .waitFill ∧
      (waiting .waitFill true [sample]).nextSample.pins.fillRsp = some true) := by decide
/-- Both phases, with every step that the script holds. -/
theorem witness_NoAnswerIsAHang :
    2 ≤ (waiting .waitCon false [silent, silent]).script.length ∧
    ((waiting .waitCon false [silent, silent]).fsm.phase = .waitCon ∧
      ∀ x ∈ (waiting .waitCon false [silent, silent]).script.take 2, x.pins.conRsp = none) ∧
    ((waiting .waitFill true [silent, silent]).fsm.phase = .waitFill ∧
      ∀ x ∈ (waiting .waitFill true [silent, silent]).script.take 2, x.pins.fillRsp = none) ∧
    (∀ x ∈ (waiting .waitFill true [silent, silent]).script.take 2, x.coreWst = none ∧ x.coreRst = none) := by decide
theorem witness_IdleWithoutAccessDoesNothing :
    (bench full [] [sample]).fsm.phase = .idle ∧ (bench full [] [sample]).accesses = [] := by decide
/-- Every row: its match value, and that value with every ignored bit set, match its mask. -/
theorem witness_row_words :
    rows.all (fun r => (r.value &&& r.mask) == r.value && ((r.value ||| ~~~r.mask) &&& r.mask) == r.value) = true := by
  decide
theorem witness_row_straps :
    anyBuild full = true ∧ full.hasConsole = true ∧ full.hasScreen = true ∧ full.hasClock = true := by decide
theorem witness_DaylightSavingsRead : start.caps.hasDiag = true ∧ (bench noDiag [] []).caps.hasDiag = false := by decide
/-- Reads beside the special ones. -/
theorem witness_ShadowRead :
    [0x003FF, 0x00600, 0x02100, 0x02600, 0x02700, 0x02E00, 0x0BF00, 0x0CB00].all
      (fun t => !Txn.isWrite t && !specialRead full t.addr) = true := by decide
theorem witness_ReadsChangeNoState :
    Instr.isWrite .rdScrXHi = false ∧ Instr.rdScrXHi ≠ .rdRtcDst ∧ Instr.isWrite .rdRtcDst = false := by decide
theorem witness_EveryWriteStoresItsByte :
    Instr.isWrite (.wrShadow 0xFF 0x01) = true ∧ Instr.isWrite (.wrScrDrawFill 0x80) = true := by decide
/-- Writes beside the special ones. -/
theorem witness_ShadowWrite :
    [0x102FF, 0x10600, 0x10F01, 0x12700, 0x12F00, 0x17000, 0x19F00, 0x1C000].all
      (fun t => Txn.isWrite t && !specialWrite full t.addr) = true ∧ start.fsm.phase = .idle := by decide
theorem witness_StackPointerWrites : start.fsm.phase = .idle := by decide
theorem witness_SystemDiagnosticWrites :
    start.fsm.phase = .idle ∧ start.caps.hasDiag = true ∧ (0x01 : Byte) ≠ 0x00 := by decide
theorem witness_ConsoleWritesAnswered :
    start.pins.conRsp = some true ∧ (start.withConRsp (some false)).pins.conRsp = some false := by decide
theorem witness_ConsoleWritesWait : (start.withConRsp none).pins.conRsp = none := by decide
theorem witness_AutoByteWrite : start.fsm.phase = .idle := by decide
theorem witness_CursorHalfWrites : start.fsm.phase = .idle := by decide
theorem witness_SpriteHalfWrites : start.fsm.phase = .idle := by decide
/-- The last pixel of the surface, both answers. -/
theorem witness_PixelDrawAnswered :
    (0x7F : Byte).getLsbD 7 = false ∧ (cursor 0x9F 0x8F true true).pins.fillRsp = some true ∧
    ((cursor 0x9F 0x8F true true).withFillRsp (some false)).pins.fillRsp = some false ∧
    (cursor 0x9F 0x8F true true).scr.x.toNat < (cursor 0x9F 0x8F true true).pins.surfW.toNat ∧
    (cursor 0x9F 0x8F true true).scr.y.toNat < (cursor 0x9F 0x8F true true).pins.surfH.toNat := by decide
theorem witness_PixelDrawWaits :
    (0x00 : Byte).getLsbD 7 = false ∧ ((cursor 0x9F 0x8F true true).withFillRsp none).pins.fillRsp = none ∧
    ((cursor 0x9F 0x8F true true).withFillRsp none).scr.x.toNat <
      ((cursor 0x9F 0x8F true true).withFillRsp none).pins.surfW.toNat ∧
    ((cursor 0x9F 0x8F true true).withFillRsp none).scr.y.toNat <
      ((cursor 0x9F 0x8F true true).withFillRsp none).pins.surfH.toNat := by decide
/-- The last pixel; then the cursor on the right edge, on the lower edge, and on a surface of width 0. -/
theorem witness_PixelDrawBoundsCheck :
    (0x01 : Byte).getLsbD 7 = false ∧ (cursor 0xA0 0x10 true false).fsm.phase = .idle ∧
    ((cursor 0x9F 0x8F true true).scr.x.toNat < (cursor 0x9F 0x8F true true).pins.surfW.toNat ∧
      (cursor 0x9F 0x8F true true).scr.y.toNat < (cursor 0x9F 0x8F true true).pins.surfH.toNat) ∧
    ¬((cursor 0xA0 0x10 true false).scr.x.toNat < (cursor 0xA0 0x10 true false).pins.surfW.toNat ∧
      (cursor 0xA0 0x10 true false).scr.y.toNat < (cursor 0xA0 0x10 true false).pins.surfH.toNat) ∧
    ¬((cursor 0x10 0x90 false true).scr.x.toNat < (cursor 0x10 0x90 false true).pins.surfW.toNat ∧
      (cursor 0x10 0x90 false true).scr.y.toNat < (cursor 0x10 0x90 false true).pins.surfH.toNat) ∧
    ((State.resetWith full).fsm.phase = .idle ∧ (State.resetWith full).pins.surfW = 0) := by decide
theorem witness_FillDrawAnswered :
    (0x80 : Byte).getLsbD 7 = true ∧ start.pins.fillRsp = some true ∧
    (start.withFillRsp (some false)).pins.fillRsp = some false := by decide
theorem witness_FillDrawWaits :
    (0xFF : Byte).getLsbD 7 = true ∧ (start.withFillRsp none).pins.fillRsp = none := by decide
/-- The cursor on the edge belongs to the first clause; one beyond it and the largest cursor to the second. -/
theorem witness_FillRectangleGeometry :
    (0x00A0 : Half).toNat ≤ (0x00A0 : Half).toNat ∧ (0x0000 : Half).toNat ≤ (0x00A0 : Half).toNat ∧
    (0x00A0 : Half).toNat < (0x00A1 : Half).toNat ∧ (0x0000 : Half).toNat < (0xFFFF : Half).toNat ∧
    fillSpan false 0x00A0 0x00A0 = (0x00A0, 0x0000) ∧ fillSpan false 0x00A1 0x00A0 = (0x00A1, 0xFFFF) := by decide
/-- A line that starts on the last pixel, and one that starts on the edge. -/
theorem witness_PixelLineStopsAtTheEdge :
    (0x02 : Byte).getLsbD 7 = false ∧ (cursor 0x9F 0x10 true false).fsm.phase = .idle ∧
    (cursor 0x9F 0x10 true false).pins.fillRsp = some true ∧ (cursor 0x9F 0x10 true false).scr.autoX = true ∧
    (cursor 0x9F 0x10 true false).scr.autoY = false ∧
    (cursor 0x9F 0x10 true false).scr.x.toNat ≤ (cursor 0x9F 0x10 true false).pins.surfW.toNat ∧
    (cursor 0xA0 0x10 true false).scr.x.toNat ≤ (cursor 0xA0 0x10 true false).pins.surfW.toNat ∧
    (cursor 0x9F 0x10 true false).scr.y.toNat < (cursor 0x9F 0x10 true false).pins.surfH.toNat := by decide
theorem witness_HalfWriteDiscardsIncrement :
    (0x01 : Byte).getLsbD 7 = false ∧ (cursor 0x10 0x20 true false).pins.fillRsp = some true ∧
    (cursor 0x10 0x20 true false).scr.autoX = true ∧ (cursor 0x10 0x20 false true).scr.autoY = true ∧
    (cursor 0x10 0x20 false true).pins.fillRsp = some true ∧
    (cursor 0x10 0x20 true false).scr.x.toNat < (cursor 0x10 0x20 true false).pins.surfW.toNat ∧
    (cursor 0x10 0x20 true false).scr.y.toNat < (cursor 0x10 0x20 true false).pins.surfH.toNat ∧
    (cursor 0x10 0x20 false true).scr.x.toNat < (cursor 0x10 0x20 false true).pins.surfW.toNat ∧
    (cursor 0x10 0x20 false true).scr.y.toNat < (cursor 0x10 0x20 false true).pins.surfH.toNat := by decide
theorem witness_LateAnswerSameAsEarly : start.fsm.phase = .idle := by decide
theorem witness_AudioWrites :
    start.fsm.phase = .idle ∧ start.caps.hasDiag = true ∧
    (Instr.wrAudioP6 0xF 0xFF, (0x6F : Byte)) ∈ [(Instr.wrAudioP3 0xF 0xFF, 0x3#4 ++ 0xF#4),
      (Instr.wrAudioP4 0xF 0xFF, 0x4#4 ++ 0xF#4), (Instr.wrAudioP5 0xF 0xFF, 0x5#4 ++ 0xF#4),
      (Instr.wrAudioP6 0xF 0xFF, 0x6#4 ++ 0xF#4)] := by decide
theorem witness_FileWrites :
    start.fsm.phase = .idle ∧ start.caps.hasDiag = true ∧
    (Instr.wrFilePb 0xF 0xFF, (0xBF : Byte)) ∈ [(Instr.wrFilePa 0xF 0xFF, 0xA#4 ++ 0xF#4),
      (Instr.wrFilePb 0xF 0xFF, 0xB#4 ++ 0xF#4)] := by decide
/-- Both ends of both ranges. -/
theorem witness_StubPageReadsAreShadow :
    [0x03000, 0x06F00, 0x0A000, 0x0BF00].all (fun t => !Txn.isWrite t &&
      (decide (0x30 ≤ (Txn.addr t).toNat ∧ (Txn.addr t).toNat ≤ 0x6F) ||
        decide (0xA0 ≤ (Txn.addr t).toNat ∧ (Txn.addr t).toNat ≤ 0xBF))) = true := by decide
/-- Both ends of the middle bits. -/
theorem witness_PaletteZeroBits : (1 ≤ 1 ∧ 1 ≤ 6) ∧ (1 ≤ 6 ∧ 6 ≤ 6) := by decide
/-- A read, and the writes on both sides of the palette bytes. -/
theorem witness_PaletteChangesOnlyByItsBytes :
    exec (.wrShadow 0x07 0xFF) start = .next (start.performWrite 0x07 0xFF (fun t => t)) ∧
    (Instr.addr (.wrShadow 0x07 0xFF)).toNat < 0x08 ∧ 0x0C < (Instr.addr (.wrShadow 0x0D 0xFF)).toNat ∧
    Instr.isWrite (.rdShadow 0x08) = false := ⟨rfl, by decide⟩

/-- A state in the middle of a pixel draw, with bytes in its shadow file. -/
def midDraw : State :=
  { waiting .waitFill true [sample] with
    shadow := [(0x26, 0x31), (0x2C, 0x03), (0x2D, 0x40), (0x2E, 0x01)]
    scr := ⟨0x9F, 0x8F, 0x0340, true, false, false, 3⟩ }

/-- The same phase of a build without a screen, waiting for the console. -/
def midConsole : State := { waiting .waitCon false [sample] with caps := noScreen }

theorem midDraw_shadow_wf : Memory.wf midDraw.shadow := by decide
theorem midDraw_screenFollowsShadow : midDraw.ScreenFollowsShadow := by unfold State.ScreenFollowsShadow; decide
theorem midDraw_waitPhaseLegal : midDraw.WaitPhaseLegal := by unfold State.WaitPhaseLegal; decide
theorem midDraw_pixelCannotWrap : midDraw.PixelCannotWrap := by unfold State.PixelCannotWrap; decide

theorem witness_StepKeepsShadowCanonical :
    Memory.wf midDraw.shadow ∧ ∃ u, step midDraw = .next u := ⟨midDraw_shadow_wf, _, rfl⟩
theorem witness_StepKeepsScreenFollowingShadow :
    midDraw.ScreenFollowsShadow ∧ midDraw.caps.hasScreen = true ∧ ∃ u, step midDraw = .next u :=
  ⟨midDraw_screenFollowsShadow, rfl, _, rfl⟩
theorem witness_StepKeepsWaitLegal :
    midDraw.WaitPhaseLegal ∧ midDraw.PixelCannotWrap ∧ midDraw.fsm = ⟨.waitFill, true⟩ ∧ ∃ u, step midDraw = .next u :=
  ⟨midDraw_waitPhaseLegal, midDraw_pixelCannotWrap, rfl, _, rfl⟩
/-- In a wait phase, and in IDLE with a read of page 0x20 presented. -/
theorem witness_AbsentScreenStaysAtReset :
    (noScreen.hasScreen = false ∧ pg (Txn.addr 0x02F00) = 0x20) ∧
    (midConsole.caps.hasScreen = false ∧ midConsole.WaitPhaseLegal ∧ midConsole.ScreenAbsentAtReset ∧
      ∃ u, step midConsole = .next u) ∧
    ((bench noScreen [0x02800] [sample]).presented = some 0x02800 ∧
      (bench noScreen [0x02800] [sample]).ScreenAbsentAtReset) :=
  ⟨by decide, ⟨rfl, by unfold State.WaitPhaseLegal; decide, fun _ => rfl, _, rfl⟩, rfl, fun _ => rfl⟩
theorem witness_StepKeepsInvariants : midDraw.Inv ∧ ∃ u, step midDraw = .next u :=
  ⟨⟨midDraw_shadow_wf, midDraw_screenFollowsShadow, fun h => absurd h (by decide), midDraw_waitPhaseLegal,
    midDraw_pixelCannotWrap⟩, _, rfl⟩
theorem witness_OnlyWritesChangeShadow :
    (bench full [0x10812] [sample]).presented = some 0x10812 ∧ Txn.isWrite 0x10812 = true ∧
    (bench full [0x00800] [sample]).presented = some 0x00800 ∧ Txn.isWrite 0x00800 = false := by decide
/-- A run of two steps that takes two accesses. -/
theorem witness_run :
    ∃ u, Host.Core.run Sys2Proof.core 2 (bench full [0x10812, 0x00800] [sample, sample]) = .next u := ⟨_, rfl⟩
theorem witness_HaltGatesNothing : (bench full [0x00800] [sample]).NotReading 0x0F := by
  intro t h
  cases h
  decide
theorem witness_StackPointerShadowUnobservable : (0x04 : Byte) = 0x04 ∨ (0x04 : Byte) = 0x05 := by decide
theorem witness_SpriteFieldsHaveNoEffect :
    (bench full [0x02600] [sample]).NotReading 0x2C ∧ (bench full [0x02600] [sample]).NotReading 0x2D := by
  refine ⟨fun t h => ?_, fun t h => ?_⟩ <;> cases h <;> decide

end Sys2Proof.Tests
end

section
/-! What a decoded access, a step and a run make of the shadow bytes (10_state.md R14). -/

namespace Sys2Proof

/-! ### The fields of the word an instruction was decoded from -/

theorem Txn.isWrite_and (t m : Txn) : Txn.isWrite (t &&& m) = (t.isWrite && m.isWrite) := by
  simp [Txn.isWrite]

theorem Txn.addr_and (t m : Txn) : Txn.addr (t &&& m) = t.addr &&& m.addr := by
  simp [Txn.addr, BitVec.extractLsb'_and]

/-- An address is the page nibble that a page row's mask leaves of it, followed by the port. -/
theorem Txn.addr_eq_page_append_port (t : Txn) : t.addr = (t.addr &&& 0xF0).extractLsb' 4 4 ++ t.port := by
  have hsplit : ∀ a : Byte, a = (a &&& 0xF0).extractLsb' 4 4 ++ a.extractLsb' 0 4 := by decide
  have hport : t.port = t.addr.extractLsb' 0 4 := by
    refine BitVec.eq_of_getLsbD_eq fun i hi => ?_
    have h8 : i < 8 := by omega
    simp [Txn.port, Txn.addr, hi, h8]
  rw [hport]
  exact hsplit t.addr

/-- An instruction has the direction and the address of a transaction word, and a write has its data byte
(30_encoding.md R45, R49). -/
def Instr.HasFieldsOf (i : Instr) (t : Txn) : Prop :=
  i.isWrite = t.isWrite ∧ i.addr = t.addr ∧ (i.isWrite = true → i.data = t.data)

/-- The instruction that a row builds has the fields of every word that matches the row. -/
def Row.KeepsFields (r : Row) : Prop :=
  ∀ t, t &&& r.mask = r.value → (r.build t).HasFieldsOf t

/-- Every mask looks at `T[16]`, so a row's direction is that of the words that match it. -/
theorem Row.isWrite_of_matches {r : Row} {t : Txn} (hm : r.mask.isWrite = true) (h : t &&& r.mask = r.value) :
    r.value.isWrite = t.isWrite := by
  rw [← h, Txn.isWrite_and, hm, Bool.and_true]

theorem Row.addr_of_matches {r : Row} {t : Txn} (h : t &&& r.mask = r.value) :
    r.value.addr = t.addr &&& r.mask.addr := by
  rw [← h, Txn.addr_and]

/-- A row for one port: its mask looks at the whole address. -/
theorem Row.keepsFields_of_port {r : Row} (hw : r.mask.isWrite = true) (ha : r.mask.addr = 0xFF)
    (hb : ∀ t, (r.build t).isWrite = r.value.isWrite ∧ (r.build t).addr = r.value.addr ∧
      ((r.build t).isWrite = true → (r.build t).data = t.data)) : r.KeepsFields := by
  intro t h
  obtain ⟨hbw, hba, hbd⟩ := hb t
  have haddr : r.value.addr = t.addr := by
    rw [Row.addr_of_matches h, ha]
    exact BitVec.and_allOnes
  exact ⟨hbw.trans (Row.isWrite_of_matches hw h), hba.trans haddr, hbd⟩

/-- A row for a page: its mask looks at the page, and the instruction takes the port. -/
theorem Row.keepsFields_of_page {r : Row} (hw : r.mask.isWrite = true) (ha : r.mask.addr = 0xF0)
    (hb : ∀ t, (r.build t).isWrite = r.value.isWrite ∧
      (r.build t).addr = r.value.addr.extractLsb' 4 4 ++ t.port ∧
      ((r.build t).isWrite = true → (r.build t).data = t.data)) : r.KeepsFields := by
  intro t h
  obtain ⟨hbw, hba, hbd⟩ := hb t
  have haddr : r.value.addr.extractLsb' 4 4 ++ t.port = t.addr := by
    rw [Row.addr_of_matches h, ha]
    exact t.addr_eq_page_append_port.symm
  exact ⟨hbw.trans (Row.isWrite_of_matches hw h), hba.trans haddr, hbd⟩

/-- A default row: its mask looks at the direction only, and the instruction takes the whole address. -/
theorem Row.keepsFields_of_default {r : Row} (hw : r.mask.isWrite = true)
    (hb : ∀ t, (r.build t).isWrite = r.value.isWrite ∧ (r.build t).addr = t.addr ∧
      ((r.build t).isWrite = true → (r.build t).data = t.data)) : r.KeepsFields := by
  intro t h
  obtain ⟨hbw, hba, hbd⟩ := hb t
  exact ⟨hbw.trans (Row.isWrite_of_matches hw h), hba, hbd⟩

/-- 23 rows for one port each, then the default read, as 30_encoding.md R54 orders them. -/
theorem readRows_keepsFields : ∀ r ∈ readRows, r.KeepsFields := by
  intro r hr
  fin_cases hr
  iterate 23 exact Row.keepsFields_of_port rfl rfl fun _ => ⟨rfl, rfl, nofun⟩
  exact Row.keepsFields_of_default rfl fun _ => ⟨rfl, rfl, nofun⟩

/-- 15 rows for one port each, 6 for a page each, then the default write, as 30_encoding.md R54 orders them. -/
theorem writeRows_keepsFields : ∀ r ∈ writeRows, r.KeepsFields := by
  intro r hr
  fin_cases hr
  iterate 15 exact Row.keepsFields_of_port rfl rfl fun _ => ⟨rfl, rfl, fun _ => rfl⟩
  iterate 6 exact Row.keepsFields_of_page rfl rfl fun _ => ⟨rfl, rfl, fun _ => rfl⟩
  exact Row.keepsFields_of_default rfl fun _ => ⟨rfl, rfl, fun _ => rfl⟩

/-- A decoded instruction has the fields of the word it was decoded from. -/
theorem decode_hasFieldsOf {c : Caps} {t : Txn} {i : Instr} (h : decode c t = some i) : i.HasFieldsOf t := by
  obtain ⟨r, hfind, rfl⟩ := decode_eq_some.mp h
  have hmatch : t &&& r.mask = r.value := by
    have hsel := List.find?_some hfind
    simp only [Row.selects, Bool.and_eq_true, beq_iff_eq] at hsel
    exact hsel.1
  rcases List.mem_append.mp (List.mem_of_find?_eq_some hfind) with hr | hr
  · exact readRows_keepsFields r hr t hmatch
  · exact writeRows_keepsFields r hr t hmatch

end Sys2Proof

namespace Sys2Proof.Machine

/-! ### What performing an access does to the shadow file and to the queue -/

/-- An update that touches neither the shadow file nor the queue of accesses. -/
def KeepsShadowAndQueue (f : State → State) : Prop :=
  ∀ s, (f s).shadow = s.shadow ∧ (f s).accesses = s.accesses

theorem keepsShadowAndQueue_diag (code : DiagCode) (a v : Byte) : KeepsShadowAndQueue (fun t => t.diag code a v) :=
  fun t => ⟨t.diag_shadow code a v, t.diag_accesses code a v⟩

theorem keepsShadowAndQueue_diag_unless_zero (code : DiagCode) (a v : Byte) :
    KeepsShadowAndQueue (fun t => if v = 0x00 then t else t.diag code a v) := by
  intro t
  dsimp only
  split
  · exact ⟨rfl, rfl⟩
  · exact keepsShadowAndQueue_diag code a v t

theorem keepsShadowAndQueue_coreWrite (sp : CoreReg) (v : Byte) : KeepsShadowAndQueue (fun t => t.coreWrite sp v) :=
  fun t => ⟨t.coreWrite_shadow sp v, t.coreWrite_accesses sp v⟩

/-- A pixel draw asks for a fill or does nothing (43_screen_page.md R94). -/
theorem keepsShadowAndQueue_pixel (v : Byte) :
    KeepsShadowAndQueue (fun t =>
      if t.inBounds then (t.requestFill true t.scr.x t.scr.y 1 1 (drawColour v) (drawFg v)).respond else t) := by
  intro t
  dsimp only
  split
  · exact ⟨State.respond_shadow _, State.respond_accesses _⟩
  · exact ⟨rfl, rfl⟩

/-- A read changes neither a shadow byte nor the queue (40_dispatch.md R60). -/
theorem exec_of_read {i : Instr} (hi : i.isWrite = false) (s : State) :
    ∃ u, exec i s = .next u ∧ u.shadow = s.shadow ∧ u.accesses = s.accesses := by
  cases i with
  | wrSysExpansion | wrSysWst | wrSysRst | wrSysDebug | wrConOut | wrConErr | wrScrAuto | wrScrXHi | wrScrXLo
  | wrScrYHi | wrScrYLo | wrScrSprHi | wrScrSprLo | wrScrDrawPixel | wrScrDrawFill | wrAudioP3 | wrAudioP4
  | wrAudioP5 | wrAudioP6 | wrFilePa | wrFilePb | wrShadow => cases hi
  | rdRtcDst => exact ⟨_, rfl, s.diag_shadow _ _ _, s.diag_accesses _ _ _⟩
  | _ => exact ⟨_, rfl, rfl, rfl⟩

/-- The shared write of a stub page stores at the address its instruction names, and its row only sends a diagnostic
(44_stub_pages.md R101 to R106). -/
theorem stubWrite_of_page (code : DiagCode) (page port : BitVec 4) (v : Byte) (s : State) :
    ∃ row, (.next (stubWrite code (pageAddr page port) v s) : Outcome) = .next (s.performWrite (page ++ port) v row) ∧
      KeepsShadowAndQueue row := by
  rw [pageAddr_eq_append]
  exact ⟨_, rfl, keepsShadowAndQueue_diag code (page ++ port) v⟩

/-- A write stores its data byte at its address, and the rest of its row touches neither the shadow file nor the queue
(40_dispatch.md R59). -/
theorem exec_of_write {i : Instr} (hi : i.isWrite = true) (s : State) :
    ∃ row, exec i s = .next (s.performWrite i.addr i.data row) ∧ KeepsShadowAndQueue row := by
  cases i with
  | wrSysExpansion v => exact ⟨_, rfl, keepsShadowAndQueue_diag_unless_zero .expansion 0x03 v⟩
  | wrSysWst v => exact ⟨_, rfl, keepsShadowAndQueue_coreWrite .wst v⟩
  | wrSysRst v => exact ⟨_, rfl, keepsShadowAndQueue_coreWrite .rst v⟩
  | wrSysDebug v => exact ⟨_, rfl, keepsShadowAndQueue_diag_unless_zero .stackDump 0x0E v⟩
  | wrConOut | wrConErr | wrScrDrawFill =>
    exact ⟨_, rfl, fun _ => ⟨State.respond_shadow _, State.respond_accesses _⟩⟩
  | wrScrDrawPixel v => exact ⟨_, rfl, keepsShadowAndQueue_pixel v⟩
  | wrScrAuto | wrScrXHi | wrScrXLo | wrScrYHi | wrScrYLo | wrScrSprHi | wrScrSprLo | wrShadow =>
    exact ⟨_, rfl, fun _ => ⟨rfl, rfl⟩⟩
  | wrAudioP3 port v => exact stubWrite_of_page .audioWrite 0x3 port v s
  | wrAudioP4 port v => exact stubWrite_of_page .audioWrite 0x4 port v s
  | wrAudioP5 port v => exact stubWrite_of_page .audioWrite 0x5 port v s
  | wrAudioP6 port v => exact stubWrite_of_page .audioWrite 0x6 port v s
  | wrFilePa port v => exact stubWrite_of_page .fileWrite 0xA port v s
  | wrFilePb port v => exact stubWrite_of_page .fileWrite 0xB port v s
  | _ => cases hi

/-- Performing an access takes nothing from the queue; a write leaves its data byte at its address, and every other byte
stays as it was (10_state.md R14). -/
theorem exec_next_inv {i : Instr} {s u : State} (h : exec i s = .next u) :
    u.accesses = s.accesses ∧
      ∀ a, u.readShadow a = if i.isWrite = true ∧ i.addr = a then i.data else s.readShadow a := by
  cases hi : i.isWrite with
  | false =>
    obtain ⟨w, hw, hshadow, hqueue⟩ := exec_of_read hi s
    obtain rfl : w = u := Host.Outcome.next.inj (hw.symm.trans h)
    exact ⟨hqueue, fun a => by simpa using State.readShadow_congr hshadow a⟩
  | true =>
    obtain ⟨row, hw, hrow⟩ := exec_of_write hi s
    obtain rfl := Host.Outcome.next.inj (hw.symm.trans h)
    obtain ⟨hshadow, hqueue⟩ := hrow (s.storeShadow i.addr i.data)
    refine ⟨hqueue, fun a => ?_⟩
    rw [State.performWrite_readShadow s _ _ row hshadow]
    simp [eq_comm]

/-! ### What a step and a run take from the queue -/

/-- A step that answers a next state took an answer, if there was one, or performed the presented access
(40_dispatch.md R58, 43_screen_page.md R97). -/
theorem step_next_inv {s u : State} (h : step s = .next u) :
    (s.presented = none ∧ u = s.takeSample.respond) ∨
    ∃ t i, s.presented = some t ∧ decode s.caps t = some i ∧ exec i s.takeSample.accept = .next u := by
  cases hp : s.presented with
  | none =>
    rw [step_of_presented_none hp] at h
    exact .inl ⟨rfl, (Host.Outcome.next.inj h).symm⟩
  | some t =>
    cases hd : decode s.caps t with
    | none => simp [step, hp, hd] at h
    | some i => exact .inr ⟨t, i, rfl, hd, (step_of_presented hp hd).symm.trans h⟩

@[simp] theorem lastWriteTo_nil (a init : Byte) : lastWriteTo a init [] = init := rfl

theorem lastWriteTo_singleton (a init : Byte) (t : Txn) :
    lastWriteTo a init [t] = if t.isWrite = true ∧ t.addr = a then t.data else init := by
  simp [lastWriteTo]

/-- The last write among more accesses starts from what the first of them left. -/
theorem lastWriteTo_append (a init : Byte) (ts us : List Txn) :
    lastWriteTo a init (ts ++ us) = lastWriteTo a (lastWriteTo a init ts) us :=
  List.foldl_append

/-- The accesses `taken` are what the queue of `s` has more than that of `u` at its head, and every shadow byte of `u` is
the last write to it among them, else what `s` holds. -/
def TookAndStored (s u : State) (taken : List Txn) : Prop :=
  s.accesses = taken ++ u.accesses ∧ ∀ a, u.readShadow a = lastWriteTo a (s.readShadow a) taken

theorem TookAndStored.trans {s m u : State} {ts us : List Txn} (h₁ : TookAndStored s m ts)
    (h₂ : TookAndStored m u us) : TookAndStored s u (ts ++ us) := by
  obtain ⟨hq₁, hb₁⟩ := h₁
  obtain ⟨hq₂, hb₂⟩ := h₂
  refine ⟨by rw [hq₁, hq₂, List.append_assoc], fun a => ?_⟩
  rw [lastWriteTo_append, ← hb₁ a, hb₂ a]

/-- Performing the access that was presented: it alone is taken, and it alone can store a byte. -/
theorem tookAndStored_of_exec {s u : State} {t : Txn} {i : Instr} (hp : s.presented = some t)
    (hd : decode s.caps t = some i) (he : exec i s.takeSample.accept = .next u) : TookAndStored s u [t] := by
  obtain ⟨hqueue, hbyte⟩ := exec_next_inv he
  obtain ⟨hw, ha, hdata⟩ := decode_hasFieldsOf hd
  obtain ⟨_, hhead⟩ := State.presented_eq_some.mp hp
  constructor
  · rw [hqueue]
    exact (List.cons_head?_tail hhead).symm
  · intro a
    rw [hbyte a, lastWriteTo_singleton, ← hw, ← ha]
    split
    next hwa => exact hdata hwa.1
    next => rfl

/-- Every step takes at most the presented access, and stores what that access writes. -/
theorem step_tookAndStored {s u : State} (h : step s = .next u) : ∃ taken, TookAndStored s u taken := by
  rcases step_next_inv h with ⟨_, rfl⟩ | ⟨t, i, hp, hd, he⟩
  · exact ⟨[], by simp, by simp⟩
  · exact ⟨[t], tookAndStored_of_exec hp hd he⟩

/-- Settles O54, by induction on the number of steps: what the first step takes comes before what the others take. -/
theorem runShadowIsLastWrite : Obligations.RunShadowIsLastWrite := by
  intro k
  induction k with
  | zero =>
    intro s u h
    obtain rfl : s = u := Host.Outcome.next.inj h
    exact ⟨[], rfl, fun _ => rfl⟩
  | succ k ih =>
    intro s u h
    obtain ⟨m, hstep, hrun⟩ := run_succ_inv h
    obtain ⟨first, hfirst⟩ := step_tookAndStored hstep
    obtain ⟨rest, hrest⟩ := ih m u hrun
    exact ⟨first ++ rest, hfirst.trans hrest⟩

end Sys2Proof.Machine
end

section
/-! What no operation looks at: the sprite address, `auto_sprite` and `length` (20_memory.md R33, 43_screen_page.md
R85). -/

namespace Sys2Proof

/-! ### What a word selects -/

/-- Only the direction of a word is left under the mask of the default rows. -/
theorem Txn.and_direction_mask (t : Txn) : t &&& 0x10000 = if t.isWrite then 0x10000 else 0x00000 :=
  BitVec.and_twoPow t 16

/-- Every word matches the default row of its direction, so some row takes it (30_encoding.md R47). -/
theorem exists_decode_eq_some (c : Caps) (t : Txn) : ∃ i, decode c t = some i := by
  have hrow : ∃ r ∈ rows, r.selects c t = true := by
    have hdir := t.and_direction_mask
    cases hw : t.isWrite with
    | false => exact ⟨⟨0x00000, 0x10000, none, fun t => .rdShadow t.addr⟩, by simp [rows, readRows],
        by simpa [Row.selects, hw] using hdir⟩
    | true => exact ⟨⟨0x10000, 0x10000, none, fun t => .wrShadow t.addr t.data⟩, by simp [rows, writeRows],
        by simpa [Row.selects, hw] using hdir⟩
  obtain ⟨r, hr⟩ := Option.isSome_iff_exists.mp (List.find?_isSome.mpr hrow)
  exact ⟨r.build t, decode_eq_some.mpr ⟨r, hr, rfl⟩⟩

/-- The two reads of the sprite address (43_screen_page.md R83, R84). -/
def Instr.ReadsSprite (i : Instr) : Prop := i = .rdScrSprHi ∨ i = .rdScrSprLo

end Sys2Proof

namespace Sys2Proof.Machine

/-! ### A state with other values in the three fields -/

/-- A state whose sprite address, `auto_sprite` and `length` hold other values. -/
def State.withSpriteFields (s : State) (p : Half) (b : Bool) (n : BitVec 4) : State :=
  { s with scr := { s.scr with sprite := p, autoSprite := b, length := n } }

section WithSpriteFields

variable (s : State) (p : Half) (b : Bool) (n : BitVec 4)

@[simp] theorem State.withSpriteFields_caps : (s.withSpriteFields p b n).caps = s.caps := rfl
@[simp] theorem State.withSpriteFields_fsm : (s.withSpriteFields p b n).fsm = s.fsm := rfl
@[simp] theorem State.withSpriteFields_pins : (s.withSpriteFields p b n).pins = s.pins := rfl
@[simp] theorem State.withSpriteFields_presented : (s.withSpriteFields p b n).presented = s.presented := rfl

/-- The bounds check looks at the cursor, not at the three fields (43_screen_page.md R93). -/
@[simp] theorem State.withSpriteFields_inBounds : (s.withSpriteFields p b n).inBounds = s.inBounds :=
  State.inBounds_congr rfl rfl rfl

theorem State.withSpriteFields_diag (code : DiagCode) (a v : Byte) :
    (s.withSpriteFields p b n).diag code a v = (s.diag code a v).withSpriteFields p b n := by
  unfold State.diag
  rw [State.withSpriteFields_caps]
  split <;> rfl

/-- An answer looks at the sequencer and the sampled inputs, and its auto-increment at the cursor and its own two
flags (43_screen_page.md R94, R97). -/
theorem State.withSpriteFields_respond :
    (s.withSpriteFields p b n).respond = s.respond.withSpriteFields p b n := by
  unfold State.respond
  rw [State.withSpriteFields_fsm, State.withSpriteFields_pins]
  cases s.fsm.phase with
  | idle => rfl
  | waitCon => cases s.pins.conRsp <;> rfl
  | waitFill =>
    cases s.pins.fillRsp with
    | none => rfl
    | some ok =>
      dsimp only
      split <;> rfl

/-- A surface request takes its rectangle from its arguments, and its answer ignores the three fields. -/
theorem State.withSpriteFields_requestFill_respond (pixel : Bool) (x y w h : Half) (colour : BitVec 2) (fg : Bool) :
    ((s.withSpriteFields p b n).requestFill pixel x y w h colour fg).respond =
      (s.requestFill pixel x y w h colour fg).respond.withSpriteFields p b n :=
  (s.requestFill pixel x y w h colour fg).withSpriteFields_respond p b n

end WithSpriteFields

/-! ### Updates that do not look at the three fields -/

/-- An update that makes the same of two states that differ in the three fields at most, but for these fields. -/
def IgnoresSpriteFields (f : State → State) : Prop :=
  ∀ s p b n, ∃ p' b' n', f (s.withSpriteFields p b n) = (f s).withSpriteFields p' b' n'

/-- A write ignores the three fields if its row does: the store before it and the completion after it do
(40_dispatch.md R59). -/
theorem ignoresSpriteFields_performWrite (a v : Byte) {row : State → State} (h : IgnoresSpriteFields row) :
    IgnoresSpriteFields (fun s => s.performWrite a v row) := by
  intro s p b n
  obtain ⟨p', b', n', hrow⟩ := h (s.storeShadow a v) p b n
  exact ⟨p', b', n', congrArg State.finishWrite hrow⟩

theorem ignoresSpriteFields_diag (code : DiagCode) (a v : Byte) : IgnoresSpriteFields (fun t => t.diag code a v) :=
  fun t p b n => ⟨p, b, n, t.withSpriteFields_diag p b n code a v⟩

theorem ignoresSpriteFields_diag_unless_zero (code : DiagCode) (a v : Byte) :
    IgnoresSpriteFields (fun t => if v = 0x00 then t else t.diag code a v) := by
  intro t p b n
  dsimp only
  split
  · exact ⟨p, b, n, rfl⟩
  · exact ignoresSpriteFields_diag code a v t p b n

theorem ignoresSpriteFields_console (chan : Chan) (v : Byte) :
    IgnoresSpriteFields (fun t => (t.requestConsole chan v).respond) :=
  fun t p b n => ⟨p, b, n, (t.requestConsole chan v).withSpriteFields_respond p b n⟩

/-- A pixel draw asks for a fill at the cursor or does nothing (43_screen_page.md R94). -/
theorem ignoresSpriteFields_pixel (v : Byte) :
    IgnoresSpriteFields (fun t =>
      if t.inBounds then (t.requestFill true t.scr.x t.scr.y 1 1 (drawColour v) (drawFg v)).respond else t) := by
  intro t p b n
  refine ⟨p, b, n, ?_⟩
  dsimp only
  rw [State.withSpriteFields_inBounds]
  split
  · exact t.withSpriteFields_requestFill_respond p b n true t.scr.x t.scr.y 1 1 (drawColour v) (drawFg v)
  · rfl

/-- A fill draw asks for a rectangle anchored at the cursor (43_screen_page.md R95). -/
theorem ignoresSpriteFields_fill (v : Byte) :
    IgnoresSpriteFields (fun t =>
      (t.requestFill false
        (fillSpan (drawFlipX v) t.scr.x t.pins.surfW).1 (fillSpan (drawFlipY v) t.scr.y t.pins.surfH).1
        (fillSpan (drawFlipX v) t.scr.x t.pins.surfW).2 (fillSpan (drawFlipY v) t.scr.y t.pins.surfH).2
        (drawColour v) (drawFg v)).respond) :=
  fun t p b n => ⟨p, b, n, t.withSpriteFields_requestFill_respond p b n false _ _ _ _ _ _⟩

theorem ignoresSpriteFields_stubWrite (code : DiagCode) (a v : Byte) : IgnoresSpriteFields (stubWrite code a v) :=
  ignoresSpriteFields_performWrite a v (ignoresSpriteFields_diag code a v)

/-! ### Performing an access -/

/-- Every other access ignores the three fields; the three writes that set them take the new values from the byte
written and from shadow bytes (43_screen_page.md R85, R90, R91). -/
theorem exec_ignoresSpriteFields {i : Instr} (hi : ¬i.ReadsSprite) :
    ∃ f, (∀ s, exec i s = .next (f s)) ∧ IgnoresSpriteFields f := by
  cases i with
  | rdScrSprHi => exact absurd (.inl rfl) hi
  | rdScrSprLo => exact absurd (.inr rfl) hi
  | rdRtcDst =>
    refine ⟨_, fun _ => rfl, fun s p b n => ⟨p, b, n, ?_⟩⟩
    rw [State.withSpriteFields_diag]
    rfl
  | wrSysExpansion v =>
    exact ⟨_, fun _ => rfl, ignoresSpriteFields_performWrite _ v (ignoresSpriteFields_diag_unless_zero _ _ v)⟩
  | wrSysDebug v =>
    exact ⟨_, fun _ => rfl, ignoresSpriteFields_performWrite _ v (ignoresSpriteFields_diag_unless_zero _ _ v)⟩
  | wrConOut v => exact ⟨_, fun _ => rfl, ignoresSpriteFields_performWrite _ v (ignoresSpriteFields_console .out v)⟩
  | wrConErr v => exact ⟨_, fun _ => rfl, ignoresSpriteFields_performWrite _ v (ignoresSpriteFields_console .err v)⟩
  | wrScrDrawPixel v => exact ⟨_, fun _ => rfl, ignoresSpriteFields_performWrite _ v (ignoresSpriteFields_pixel v)⟩
  | wrScrDrawFill v => exact ⟨_, fun _ => rfl, ignoresSpriteFields_performWrite _ v (ignoresSpriteFields_fill v)⟩
  | wrAudioP3 | wrAudioP4 | wrAudioP5 | wrAudioP6 | wrFilePa | wrFilePb =>
    exact ⟨_, fun _ => rfl, ignoresSpriteFields_stubWrite _ _ _⟩
  | wrScrAuto v => exact ⟨_, fun _ => rfl, fun _ p _ _ => ⟨p, autoByteSprite v, autoByteLength v, rfl⟩⟩
  | wrScrSprHi | wrScrSprLo => exact ⟨_, fun _ => rfl, fun _ _ b n => ⟨_, b, n, rfl⟩⟩
  | _ => exact ⟨_, fun _ => rfl, fun _ p b n => ⟨p, b, n, rfl⟩⟩

/-- Two states that agree in everything but the three fields and the byte a read returned. -/
def State.AgreeButSprite (u w : State) : Prop :=
  ∃ p b n r, w = { u with accRdata := r }.withSpriteFields p b n

/-- An update that ignores the three fields returns the same byte too. -/
theorem IgnoresSpriteFields.agree {f : State → State} (h : IgnoresSpriteFields f) (s : State) (p : Half) (b : Bool)
    (n : BitVec 4) :
    State.AgreeButSprite (f s) (f (s.withSpriteFields p b n)) ∧
      (f (s.withSpriteFields p b n)).accRdata = (f s).accRdata := by
  obtain ⟨p', b', n', hf⟩ := h s p b n
  rw [hf]
  exact ⟨⟨p', b', n', _, rfl⟩, rfl⟩

/-- Whatever access is performed, the three fields can only reach themselves and the byte of a read of the sprite
address. -/
theorem exec_withSpriteFields (i : Instr) (s : State) (p : Half) (b : Bool) (n : BitVec 4) :
    ∃ u w, exec i s = .next u ∧ exec i (s.withSpriteFields p b n) = .next w ∧ State.AgreeButSprite u w ∧
      (¬i.ReadsSprite → w.accRdata = u.accRdata) := by
  by_cases hi : i.ReadsSprite
  · obtain rfl | rfl := hi
    · exact ⟨_, _, rfl, rfl, ⟨p, b, n, _, rfl⟩, fun h => absurd (.inl rfl) h⟩
    · exact ⟨_, _, rfl, rfl, ⟨p, b, n, _, rfl⟩, fun h => absurd (.inr rfl) h⟩
  · obtain ⟨f, hexec, hf⟩ := exec_ignoresSpriteFields hi
    obtain ⟨hagree, hbyte⟩ := hf.agree s p b n
    exact ⟨_, _, hexec _, hexec _, hagree, fun _ => hbyte⟩

/-! ### One step -/

/-- A word that is not a read of 0x2C or 0x2D does not select a read of the sprite address. -/
theorem not_readsSprite_of_notReading {s : State} {t : Txn} {i : Instr} (hp : s.presented = some t)
    (hd : decode s.caps t = some i) (hhi : s.NotReading 0x2C) (hlo : s.NotReading 0x2D) : ¬i.ReadsSprite := by
  obtain ⟨hwrite, haddr, _⟩ := decode_hasFieldsOf hd
  rintro (rfl | rfl)
  · rcases hhi t hp with hw | ha
    · exact absurd (hwrite.trans hw) (by decide)
    · exact ha haddr.symm
  · rcases hlo t hp with hw | ha
    · exact absurd (hwrite.trans hw) (by decide)
    · exact ha haddr.symm

/-- A step takes an answer, which ignores the three fields, or performs the access that both states present and decode
alike. -/
theorem step_withSpriteFields (s : State) (p : Half) (b : Bool) (n : BitVec 4) :
    ∃ u w, step s = .next u ∧ step (s.withSpriteFields p b n) = .next w ∧ State.AgreeButSprite u w ∧
      (s.NotReading 0x2C → s.NotReading 0x2D → w.accRdata = u.accRdata) := by
  cases hp : s.presented with
  | none =>
    have hp' := (s.withSpriteFields_presented p b n).trans hp
    have hrespond : IgnoresSpriteFields State.respond := fun t p b n => ⟨p, b, n, t.withSpriteFields_respond p b n⟩
    obtain ⟨hagree, hbyte⟩ := hrespond.agree s.takeSample p b n
    exact ⟨_, _, step_of_presented_none hp, step_of_presented_none hp', hagree, fun _ _ => hbyte⟩
  | some t =>
    obtain ⟨i, hd⟩ := exists_decode_eq_some s.caps t
    obtain ⟨u, w, hu, hw, hagree, hbyte⟩ := exec_withSpriteFields i s.takeSample.accept p b n
    have hp' := (s.withSpriteFields_presented p b n).trans hp
    exact ⟨u, w, (step_of_presented hp hd).trans hu, (step_of_presented hp' hd).trans hw, hagree,
      fun hhi hlo => hbyte (not_readsSprite_of_notReading hp hd hhi hlo)⟩

/-- Settles O58: what agreement but for the three fields says, field by field. -/
theorem spriteFieldsHaveNoEffect : Obligations.SpriteFieldsHaveNoEffect := by
  intro s p b n
  obtain ⟨u, _, hu, hw, ⟨_, _, _, _, rfl⟩, hbyte⟩ := step_withSpriteFields s p b n
  exact ⟨u, _, hu, hw, rfl, rfl, rfl, ⟨rfl, rfl, rfl, rfl, rfl⟩, rfl, rfl, rfl, rfl, rfl, rfl, rfl, hbyte⟩

end Sys2Proof.Machine
end

section
/-! What a read returns, what it leaves as it was, and what it hands over (40_dispatch.md R60). -/

namespace Sys2Proof.Machine

/-! ### How a read completes -/

section ReadCompletes

variable (s : State) (code : DiagCode) (a v b : Byte)

/-- Completing a read sets the two outputs of the access port and keeps everything else. -/
theorem State.readGives_completeRead : State.ReadGives s (s.completeRead b) b :=
  ⟨rfl, rfl, rfl, fun _ => rfl, rfl, rfl, rfl, rfl, rfl, rfl, rfl, rfl⟩

theorem State.nothingSent_completeRead : State.NothingSent s (s.completeRead b) :=
  ⟨rfl, rfl⟩

/-- A diagnostic touches `event` and `sent` alone, which are no state of the block. -/
theorem State.readGives_diag_completeRead : State.ReadGives s ((s.diag code a v).completeRead b) b := by
  simp [State.ReadGives, State.SameEnvironment]

/-- The strap alone decides whether the diagnostic is handed over (10_state.md R29). -/
theorem State.sendsDiag_diag : State.SendsDiag s (s.diag code a v) code a v := by
  unfold State.SendsDiag
  split
  next hdiag => simp [State.Sends, hdiag]
  next hdiag => simp [State.NothingSent, hdiag]

theorem State.sendsDiag_diag_completeRead :
    State.SendsDiag s ((s.diag code a v).completeRead b) code a v :=
  s.sendsDiag_diag code a v

end ReadCompletes

/-! ### The read instructions -/

/-- A read other than that of 0xCA does nothing but complete with its byte; the byte differs from row to row. -/
theorem exec_of_read_ne_dst {i : Instr} (hi : i.isWrite = false) (hdst : i ≠ .rdRtcDst) (s : State) :
    ∃ b, exec i s = .next (s.completeRead b) := by
  cases i with
  | wrSysExpansion | wrSysWst | wrSysRst | wrSysDebug | wrConOut | wrConErr | wrScrAuto | wrScrXHi | wrScrXLo
  | wrScrYHi | wrScrYLo | wrScrSprHi | wrScrSprLo | wrScrDrawPixel | wrScrDrawFill | wrAudioP3 | wrAudioP4
  | wrAudioP5 | wrAudioP6 | wrFilePa | wrFilePb | wrShadow => cases hi
  | rdRtcDst => exact absurd rfl hdst
  | _ => exact ⟨_, rfl⟩

/-- Settles O21: the read of 0xCA sends its diagnostic and completes, every other read only completes. -/
theorem readsChangeNoState : Obligations.ReadsChangeNoState := by
  intro i s hi
  by_cases hdst : i = .rdRtcDst
  · subst hdst
    exact ⟨_, s.readShadow 0xCA, rfl, s.readGives_diag_completeRead _ _ _ _, fun hne => absurd rfl hne,
      fun _ => s.sendsDiag_diag_completeRead .rtcDstRead 0xCA _ _⟩
  · obtain ⟨b, hexec⟩ := exec_of_read_ne_dst hi hdst s
    exact ⟨_, b, hexec, s.readGives_completeRead b, fun _ => s.nothingSent_completeRead b,
      fun h => absurd h hdst⟩

end Sys2Proof.Machine
end

section
/-! The rows of the opcode table that decode takes, and the core's stack pointers at ports 0x04 and 0x05
(30_encoding.md R47, 41_system_page.md R66, R67, R69, R70). -/

namespace Sys2Proof.Machine

/-! ### When a row is taken -/

/-- A word that matches two rows has the bits of both match values, so these agree under both masks. -/
theorem values_agree_of_matches {t value mask value' mask' : Txn} (h : t &&& mask = value)
    (h' : t &&& mask' = value') : value &&& mask' = value' &&& mask := by
  rw [← h, ← h']
  ac_rfl

/-- The row at index `k` is taken when no row before it can match the same word (30_encoding.md R47). Row `n` of R54
stands at index `n - 1`. -/
theorem rowTakes_of_index {value mask : Txn} {requires : Option Strap} {build : Txn → Instr} {needs : Caps → Bool}
    (k : Nat) (hrow : rows[k]? = some ⟨value, mask, requires, build⟩)
    (hneeds : ∀ c, needs c = true → (requires.map (Strap.holds c)).getD true = true)
    (hbefore : ∀ r ∈ rows.take k, r.value &&& mask ≠ value &&& r.mask) : RowTakes value mask needs build := by
  intro c t hmatch hc
  obtain ⟨hk, hget⟩ := List.getElem?_eq_some_iff.mp hrow
  have hselects : Row.selects c t ⟨value, mask, requires, build⟩ = true := by
    simp [Row.selects, hmatch, hneeds c hc]
  refine decode_eq_some.mpr ⟨_, List.find?_eq_some_iff_getElem.mpr ⟨hselects, k, hk, hget, fun j hj => ?_⟩, rfl⟩
  have hdiffer := hbefore rows[j] (List.mem_take_iff_getElem.mpr ⟨j, by omega, rfl⟩)
  have hmismatch : t &&& rows[j].mask ≠ rows[j].value := fun h => hdiffer (values_agree_of_matches h hmatch)
  simp [Row.selects, hmismatch]

/-! ### Reads of the stack pointers -/

/-- Settles O14: rows 1 and 2, which answer with the core's pointer without a look at the shadow file. -/
theorem stackPointerReads : Obligations.StackPointerReads := by
  refine ⟨rowTakes_of_index 0 rfl (fun _ _ => rfl) (by decide), rowTakes_of_index 1 rfl (fun _ _ => rfl) (by decide),
    fun s => ⟨?_, ?_⟩⟩
  · exact ⟨_, rfl, s.readGives_completeRead s.core.wst, s.nothingSent_completeRead s.core.wst⟩
  · exact ⟨_, rfl, s.readGives_completeRead s.core.rst, s.nothingSent_completeRead s.core.rst⟩

/-! ### Writes of the stack pointers -/

/-- A write whose row leaves the sequencer in `IDLE` is complete (40_dispatch.md R58). -/
theorem State.writeCompletes_performWrite {s : State} {a v : Byte} {row : State → State}
    (h : (row (s.storeShadow a v)).fsm.phase = .idle) : State.WriteCompletes (s.performWrite a v row) := by
  simp [State.WriteCompletes, State.performWrite, h]

/-- The output signals of a strobe: the pointer it is for, and the byte (10_state.md R25). -/
theorem State.strobe_of_event {t : State} {sp : CoreReg} {v : Byte} (h : t.event = some (.coreWrite sp v)) :
    t.coreWstWe = decide (sp = .wst) ∧ t.coreRstWe = decide (sp = .rst) ∧ t.coreSpWdata = some v := by
  cases sp <;> simp [State.coreWstWe, State.coreRstWe, State.coreSpWdata, h]

/-- What both rows do: the byte is stored at `a` and handed over by the strobe of `sp` alone, and the access completes
(41_system_page.md R69, R70). -/
def State.StrobedWrite (s t : State) (a v : Byte) (sp : CoreReg) : Prop :=
  State.Sends s t (.coreWrite sp v) ∧
  (t.coreWstWe = decide (sp = .wst) ∧ t.coreRstWe = decide (sp = .rst) ∧ t.coreSpWdata = some v) ∧
  State.StoresByte s t a v ∧ State.WriteCompletes t ∧ t.scr = s.scr ∧ t.fsm = s.fsm ∧ State.SameEnvironment s t

theorem State.strobedWrite_performWrite {s : State} (hidle : s.fsm.phase = .idle) (a v : Byte) (sp : CoreReg) :
    State.StrobedWrite s (s.performWrite a v (fun t => t.coreWrite sp v)) a v sp := by
  have hevent := (s.storeShadow a v).coreWrite_event sp v
  have hfsm := (s.storeShadow a v).coreWrite_fsm sp v
  refine ⟨⟨hevent, State.coreWrite_sent _ sp v⟩, State.strobe_of_event hevent,
    s.performWrite_readShadow a v _ (State.coreWrite_shadow _ sp v),
    State.writeCompletes_performWrite ((congrArg Sequencer.phase hfsm).trans hidle),
    State.coreWrite_scr _ sp v, hfsm, ?_⟩
  simp [State.SameEnvironment, State.performWrite]

/-- Settles O24: rows 26 and 27, each a strobed write of its own pointer. -/
theorem stackPointerWrites : Obligations.StackPointerWrites := by
  refine ⟨rowTakes_of_index 25 rfl (fun _ _ => rfl) (by decide),
    rowTakes_of_index 26 rfl (fun _ _ => rfl) (by decide), fun s v hidle => ⟨?_, ?_⟩⟩
  · obtain ⟨hsends, ⟨hwst, hrst, hdata⟩, hrest⟩ := State.strobedWrite_performWrite hidle 0x04 v .wst
    exact ⟨_, rfl, rfl, hsends, hwst, hrst, hdata, hrest⟩
  · obtain ⟨hsends, ⟨hwst, hrst, hdata⟩, hrest⟩ := State.strobedWrite_performWrite hidle 0x05 v .rst
    exact ⟨_, rfl, rfl, hsends, hrst, hwst, hdata, hrest⟩

end Sys2Proof.Machine
end

section
/-! A build without a screen: the default rows take page 0x20, and nothing reaches the screen registers or the surface
(30_encoding.md R48, 43_screen_page.md R99). -/

namespace Sys2Proof

/-! ### The default rows -/

/-- The rows whose mask looks at the direction alone are the last ones of their direction (30_encoding.md R54). -/
theorem rows_filter_direction_mask : rows.filter (fun r => r.mask == 0x10000) =
    [⟨0x00000, 0x10000, none, fun t => .rdShadow t.addr⟩,
      ⟨0x10000, 0x10000, none, fun t => .wrShadow t.addr t.data⟩] := rfl

/-- A word that no other row selects goes to the default row of its direction (30_encoding.md R47). -/
theorem decode_eq_default {c : Caps} {t : Txn} (h : ∀ r ∈ rows, r.mask ≠ 0x10000 → r.selects c t = false) :
    decode c t = some (if t.isWrite then .wrShadow t.addr t.data else .rdShadow t.addr) := by
  obtain ⟨i, hdecode⟩ := exists_decode_eq_some c t
  obtain ⟨r, hfind, hbuild⟩ := decode_eq_some.mp hdecode
  have hmem := List.mem_of_find?_eq_some hfind
  have hselects := List.find?_some hfind
  have hmask : r.mask = 0x10000 := by
    by_contra hne
    exact Bool.false_ne_true ((h r hmem hne).symm.trans hselects)
  have hdefault : r ∈ rows.filter (fun r => r.mask == 0x10000) := List.mem_filter.mpr ⟨hmem, by simp [hmask]⟩
  have hdirection : (if t.isWrite then 0x10000 else 0x00000) = r.value := by
    rw [← Txn.and_direction_mask, ← hmask]
    exact eq_of_beq (Bool.and_eq_true_iff.mp hselects).1
  rw [hdecode, ← hbuild]
  rw [rows_filter_direction_mask] at hdefault
  rcases List.mem_pair.mp hdefault with rfl | rfl
  · have hread : t.isWrite = false := by simpa using hdirection
    simp [hread]
  · have hwrite : t.isWrite = true := by simpa using hdirection
    simp [hwrite]

/-- A row whose mask keeps the page selects no word of another page. -/
theorem Row.selects_eq_false_of_page {r : Row} {t : Txn} (c : Caps) (hmask : Machine.pg r.mask.addr = 0xF0)
    (hpage : Machine.pg r.value.addr ≠ Machine.pg t.addr) : r.selects c t = false := by
  have hmismatch : t &&& r.mask ≠ r.value := by
    intro hmatch
    refine hpage ?_
    rw [Row.addr_of_matches hmatch]
    unfold Machine.pg at hmask ⊢
    rw [BitVec.and_assoc, hmask]
  simp [Row.selects, hmismatch]

/-- A row whose strap is not set selects no word (30_encoding.md R48). -/
theorem Row.selects_eq_false_of_requires {r : Row} {c : Caps} {strap : Strap} (t : Txn)
    (hrequires : r.requires = some strap) (habsent : strap.holds c = false) : r.selects c t = false := by
  simp [Row.selects, hrequires, habsent]

/-- Without the strap that every row of a page requires, the default rows take the whole page (30_encoding.md R48). -/
theorem decode_of_absent_page {c : Caps} {t : Txn} {strap : Strap} (habsent : strap.holds c = false)
    (hrows : ∀ r ∈ rows, r.mask ≠ 0x10000 → r.requires = some strap ∨
      (Machine.pg r.mask.addr = 0xF0 ∧ Machine.pg r.value.addr ≠ Machine.pg t.addr)) :
    decode c t = some (if t.isWrite then .wrShadow t.addr t.data else .rdShadow t.addr) :=
  decode_eq_default fun r hr hmask => (hrows r hr hmask).elim
    (fun hrequires => Row.selects_eq_false_of_requires t hrequires habsent)
    (fun ⟨hpage, hother⟩ => Row.selects_eq_false_of_page c hpage hother)

/-- Every row of page 0x20 but the default ones requires the screen (30_encoding.md R48). -/
theorem decode_of_absent_screen {c : Caps} {t : Txn} (habsent : c.hasScreen = false)
    (hpage : Machine.pg t.addr = 0x20) :
    decode c t = some (if t.isWrite then .wrShadow t.addr t.data else .rdShadow t.addr) :=
  decode_of_absent_page (strap := .screen) habsent (by rw [hpage]; decide)

/-- An access to page 0x20 is a default access. -/
def Instr.SkipsScreen (i : Instr) : Prop :=
  Machine.pg i.addr = 0x20 → i = .rdShadow i.addr ∨ i = .wrShadow i.addr i.data

theorem skipsScreen_of_decode {c : Caps} {t : Txn} {i : Instr} (habsent : c.hasScreen = false)
    (hd : decode c t = some i) : i.SkipsScreen := by
  intro hpage
  obtain ⟨_, haddr, _⟩ := decode_hasFieldsOf hd
  rw [decode_of_absent_screen habsent (haddr ▸ hpage)] at hd
  obtain rfl := Option.some.inj hd
  cases t.isWrite with
  | false => exact .inl rfl
  | true => exact .inr rfl

end Sys2Proof

namespace Sys2Proof.Machine

/-! ### The fill request -/

/-- `fill_req` is asserted exactly in a step that hands a rectangle to the surface (10_state.md R26). -/
theorem State.fillReq_iff (s : State) :
    s.fillReq = true ↔ ∃ x y w h colour fg, s.event = some (.surfaceFill x y w h colour fg) := by
  unfold State.fillReq State.fillPort
  split
  next hevent => simp [hevent]
  next hother => simpa using hother

theorem State.fillReq_congr {s t : State} (h : t.event = s.event) : t.fillReq = s.fillReq := by
  simp [State.fillReq, State.fillPort, h]

/-- An event for another collaborator asserts no fill request. -/
theorem State.fillReq_eq_false {s : State}
    (hother : ∀ x y w h colour fg, s.event ≠ some (.surfaceFill x y w h colour fg)) : s.fillReq = false := by
  rw [← Bool.not_eq_true, State.fillReq_iff]
  rintro ⟨x, y, w, h, colour, fg, hevent⟩
  exact hother x y w h colour fg hevent

/-! ### Without a screen -/

/-- An update that leaves the straps and the screen registers alone and asks for no fill. -/
def SparesScreen (f : State → State) : Prop :=
  ∀ s, (f s).caps = s.caps ∧ (f s).scr = s.scr ∧ (s.fillReq = false → (f s).fillReq = false)

/-- A write spares the screen if its row does: neither the store nor the completion touches it. -/
theorem sparesScreen_performWrite (a v : Byte) {row : State → State} (h : SparesScreen row) :
    SparesScreen (fun s => s.performWrite a v row) :=
  fun s => h (s.storeShadow a v)

theorem sparesScreen_diag (code : DiagCode) (a v : Byte) : SparesScreen (fun t => t.diag code a v) := by
  refine fun t => ⟨t.diag_caps code a v, t.diag_scr code a v, fun hquiet => ?_⟩
  cases hdiag : t.caps.hasDiag with
  | true => exact State.fillReq_eq_false (by simp [hdiag])
  | false => exact (State.fillReq_congr (by simp [hdiag])).trans hquiet

theorem sparesScreen_diag_unless_zero (code : DiagCode) (a v : Byte) :
    SparesScreen (fun t => if v = 0x00 then t else t.diag code a v) := by
  intro t
  dsimp only
  split
  · exact ⟨rfl, rfl, id⟩
  · exact sparesScreen_diag code a v t

theorem sparesScreen_coreWrite (sp : CoreReg) (v : Byte) : SparesScreen (fun t => t.coreWrite sp v) :=
  fun t => ⟨t.coreWrite_caps sp v, t.coreWrite_scr sp v, fun _ => State.fillReq_eq_false (by simp)⟩

/-- Only a surface answer moves the cursor (43_screen_page.md R97). -/
theorem State.respond_scr_of_ne_waitFill {s : State} (h : s.fsm.phase ≠ .waitFill) : s.respond.scr = s.scr := by
  rcases s.respond_cases with ⟨_, hr⟩ | ⟨_, _, hr⟩ | ⟨_, _, hr⟩ | ⟨hp, _⟩ | ⟨hp, _⟩ | ⟨hp, _⟩
  · rw [hr]
  · rw [hr]
  · rw [hr, State.completeWait_scr]
  all_goals exact absurd hp h

theorem sparesScreen_console (chan : Chan) (v : Byte) :
    SparesScreen (fun t => (t.requestConsole chan v).respond) :=
  fun t => ⟨State.respond_caps _, State.respond_scr_of_ne_waitFill (s := t.requestConsole chan v) (by simp),
    fun _ => State.fillReq_eq_false (by simp)⟩

theorem sparesScreen_stubWrite (code : DiagCode) (a v : Byte) : SparesScreen (stubWrite code a v) :=
  sparesScreen_performWrite a v (sparesScreen_diag code a v)

/-- Only the writes of page 0x20 other than the default write touch the screen (43_screen_page.md R98). -/
theorem exec_sparesScreen {i : Instr} (hi : i.SkipsScreen) :
    ∃ f, (∀ s, exec i s = .next (f s)) ∧ SparesScreen f := by
  cases i with
  | wrScrAuto | wrScrXHi | wrScrXLo | wrScrYHi | wrScrYLo | wrScrSprHi | wrScrSprLo | wrScrDrawPixel
  | wrScrDrawFill => exact absurd (hi (by simp [Instr.addr, pg])) (by simp)
  | rdRtcDst => exact ⟨_, fun _ => rfl, fun s => sparesScreen_diag .rtcDstRead 0xCA (s.readShadow 0xCA) s⟩
  | wrSysExpansion v =>
    exact ⟨_, fun _ => rfl, sparesScreen_performWrite _ v (sparesScreen_diag_unless_zero _ _ v)⟩
  | wrSysDebug v => exact ⟨_, fun _ => rfl, sparesScreen_performWrite _ v (sparesScreen_diag_unless_zero _ _ v)⟩
  | wrSysWst v => exact ⟨_, fun _ => rfl, sparesScreen_performWrite _ v (sparesScreen_coreWrite .wst v)⟩
  | wrSysRst v => exact ⟨_, fun _ => rfl, sparesScreen_performWrite _ v (sparesScreen_coreWrite .rst v)⟩
  | wrConOut v => exact ⟨_, fun _ => rfl, sparesScreen_performWrite _ v (sparesScreen_console .out v)⟩
  | wrConErr v => exact ⟨_, fun _ => rfl, sparesScreen_performWrite _ v (sparesScreen_console .err v)⟩
  | wrAudioP3 | wrAudioP4 | wrAudioP5 | wrAudioP6 | wrFilePa | wrFilePb =>
    exact ⟨_, fun _ => rfl, sparesScreen_stubWrite _ _ _⟩
  | _ => exact ⟨_, fun _ => rfl, fun _ => ⟨rfl, rfl, id⟩⟩

/-- A step without a screen takes at most a console answer, or performs an access that spares the screen. -/
theorem step_sparesScreen {s u : State} (habsent : s.caps.hasScreen = false) (hlegal : s.WaitPhaseLegal)
    (h : step s = .next u) : u.caps = s.caps ∧ u.scr = s.scr ∧ u.fillReq = false := by
  rcases step_next_inv h with ⟨_, rfl⟩ | ⟨t, i, _, hd, he⟩
  · obtain ⟨_, hfill⟩ := hlegal
    have hphase : s.takeSample.fsm.phase ≠ .waitFill := fun hp =>
      Bool.false_ne_true (habsent.symm.trans (hfill hp))
    exact ⟨State.respond_caps _, State.respond_scr_of_ne_waitFill hphase, State.fillReq_eq_false (by simp)⟩
  · obtain ⟨f, hexec, hf⟩ := exec_sparesScreen (skipsScreen_of_decode habsent hd)
    obtain rfl := Host.Outcome.next.inj ((hexec _).symm.trans he)
    obtain ⟨hcaps, hscr, hquiet⟩ := hf s.takeSample.accept
    exact ⟨hcaps, hscr, hquiet rfl⟩

/-- A read of page 0x20 without a screen is the default read (43_screen_page.md R99). -/
theorem step_read_of_absent_screen {s u : State} {t : Txn} (habsent : s.caps.hasScreen = false)
    (hp : s.presented = some t) (hread : t.isWrite = false) (hpage : pg t.addr = 0x20) (h : step s = .next u) :
    u.accRdata = some (s.readShadow t.addr) := by
  have hd : decode s.caps t = some (.rdShadow t.addr) := by
    rw [decode_of_absent_screen habsent hpage, hread]
    rfl
  obtain rfl := Host.Outcome.next.inj ((step_of_presented hp hd).symm.trans h)
  rfl

/-- Settles O51: no row of the screen is taken without it, and no other access or answer touches its registers. -/
theorem absentScreenStaysAtReset : Obligations.AbsentScreenStaysAtReset := by
  refine ⟨fun c t habsent hpage => decode_of_absent_screen habsent hpage, fun s u habsent hlegal hreset h => ?_⟩
  obtain ⟨hcaps, hscr, hquiet⟩ := step_sparesScreen habsent hlegal h
  exact ⟨fun _ => hscr.trans (hreset habsent), (congrArg Caps.hasScreen hcaps).trans habsent, hquiet,
    fun t hp hread hpage => step_read_of_absent_screen habsent hp hread hpage h⟩

end Sys2Proof.Machine
end

section
/-! A build with a screen: the register reads, the half-writes of the cursor, and the bounds check of a pixel draw
(43_screen_page.md R79 to R84, R86 to R89, R93). -/

namespace Sys2Proof.Machine

/-! ### Register reads -/

/-- Settles O16: rows 7 to 12, which answer with a half of the register without a look at the shadow file. -/
theorem screenRegisterReads : Obligations.ScreenRegisterReads := by
  refine ⟨rowTakes_of_index 6 rfl (fun _ h => h) (by decide), rowTakes_of_index 7 rfl (fun _ h => h) (by decide),
    rowTakes_of_index 8 rfl (fun _ h => h) (by decide), rowTakes_of_index 9 rfl (fun _ h => h) (by decide),
    rowTakes_of_index 10 rfl (fun _ h => h) (by decide), rowTakes_of_index 11 rfl (fun _ h => h) (by decide),
    fun s => ⟨?_, ?_, ?_, ?_, ?_, ?_⟩⟩
  · exact ⟨_, rfl, s.readGives_completeRead (hi8 s.scr.x), s.nothingSent_completeRead _⟩
  · exact ⟨_, rfl, s.readGives_completeRead (lo8 s.scr.x), s.nothingSent_completeRead _⟩
  · exact ⟨_, rfl, s.readGives_completeRead (hi8 s.scr.y), s.nothingSent_completeRead _⟩
  · exact ⟨_, rfl, s.readGives_completeRead (lo8 s.scr.y), s.nothingSent_completeRead _⟩
  · exact ⟨_, rfl, s.readGives_completeRead (hi8 s.scr.sprite), s.nothingSent_completeRead _⟩
  · exact ⟨_, rfl, s.readGives_completeRead (lo8 s.scr.sprite), s.nothingSent_completeRead _⟩

/-! ### Writes that ask no collaborator -/

/-- A write has completed that stored its byte and, beyond it, touched the screen registers at most. -/
def State.QuietWrite (s t : State) (a v : Byte) : Prop :=
  State.StoresByte s t a v ∧ State.WriteCompletes t ∧ t.fsm = s.fsm ∧ t.core = s.core ∧
  State.SameEnvironment s t ∧ State.NothingSent s t

/-- In `IDLE`, a write whose row sets the screen registers alone is quiet. -/
theorem State.quietWrite_performWrite {s : State} (hidle : s.fsm.phase = .idle) {a v : Byte} {row : State → State}
    {r : Screen} (hrow : row (s.storeShadow a v) = { s.storeShadow a v with scr := r }) :
    State.QuietWrite s (s.performWrite a v row) a v := by
  have hphase : (row (s.storeShadow a v)).fsm.phase = .idle := by rw [hrow]; exact hidle
  refine ⟨s.performWrite_readShadow a v row (by rw [hrow]), State.writeCompletes_performWrite hphase, ?_⟩
  unfold State.performWrite
  rw [hrow]
  exact ⟨rfl, rfl, ⟨rfl, rfl, rfl, rfl, rfl⟩, rfl, rfl⟩

/-! ### Half-writes of the cursor -/

/-- `scr.x` after a store: the half at the stored address is the byte, the other comes from its shadow byte
(43_screen_page.md R86, R87). -/
theorem State.performWrite_composeX_scr (s : State) (a v : Byte) :
    (s.performWrite a v (fun t => t.composeX)).scr = { s.scr with
      x := cat16 (if 0x28 = a then v else s.readShadow 0x28) (if 0x29 = a then v else s.readShadow 0x29) } := by
  simp [State.performWrite]

/-- `scr.y` after a store, in the same way (43_screen_page.md R88, R89). -/
theorem State.performWrite_composeY_scr (s : State) (a v : Byte) :
    (s.performWrite a v (fun t => t.composeY)).scr = { s.scr with
      y := cat16 (if 0x2A = a then v else s.readShadow 0x2A) (if 0x2B = a then v else s.readShadow 0x2B) } := by
  simp [State.performWrite]

/-- Settles O29: rows 32 to 35, each a quiet write that composes its register. -/
theorem cursorHalfWrites : Obligations.CursorHalfWrites := by
  refine ⟨rowTakes_of_index 31 rfl (fun _ h => h) (by decide), rowTakes_of_index 32 rfl (fun _ h => h) (by decide),
    rowTakes_of_index 33 rfl (fun _ h => h) (by decide), rowTakes_of_index 34 rfl (fun _ h => h) (by decide),
    fun s v hidle => ⟨?_, ?_, ?_, ?_⟩⟩
  · exact ⟨_, rfl, s.performWrite_composeX_scr 0x28 v, State.quietWrite_performWrite hidle rfl⟩
  · exact ⟨_, rfl, s.performWrite_composeX_scr 0x29 v, State.quietWrite_performWrite hidle rfl⟩
  · exact ⟨_, rfl, s.performWrite_composeY_scr 0x2A v, State.quietWrite_performWrite hidle rfl⟩
  · exact ⟨_, rfl, s.performWrite_composeY_scr 0x2B v, State.quietWrite_performWrite hidle rfl⟩

/-! ### The bounds check of a pixel draw -/

/-- A pixel draw inside both edges asks the surface for the pixel at the cursor (43_screen_page.md R93, R94). -/
theorem exec_drawPixel_of_inBounds {s : State} (h : s.inBounds = true) (v : Byte) :
    exec (.wrScrDrawPixel v) s = .next (s.performWrite 0x2E v (fun t =>
      (t.requestFill true t.scr.x t.scr.y 1 1 (drawColour v) (drawFg v)).respond)) := by
  simp [exec, execWrScrDrawPixel, State.performWrite, h]

/-- At or beyond an edge a pixel draw only stores its byte (43_screen_page.md R93). -/
theorem exec_drawPixel_of_not_inBounds {s : State} (h : s.inBounds = false) (v : Byte) :
    exec (.wrScrDrawPixel v) s = .next (s.performWrite 0x2E v id) := by
  simp [exec, execWrScrDrawPixel, State.performWrite, h]

/-- A skipped pixel draw is a quiet write that leaves the screen registers alone too. -/
theorem quietWrite_drawPixel_of_not_inBounds {s : State} (hidle : s.fsm.phase = .idle) (hskip : s.inBounds = false)
    (v : Byte) : ∃ t, exec (.wrScrDrawPixel v) s = .next t ∧ t.scr = s.scr ∧ State.QuietWrite s t 0x2E v :=
  ⟨_, exec_drawPixel_of_not_inBounds hskip v, rfl, State.quietWrite_performWrite hidle rfl⟩

/-- The empty surface has no cursor position inside both edges. -/
theorem State.inBounds_eq_false_of_empty {s : State} (h : s.pins.surfW = 0 ∨ s.pins.surfH = 0) :
    s.inBounds = false := by
  rw [← Bool.not_eq_true, State.inBounds_iff]
  rcases h with h | h <;> simp [h]

/-- Settles O34: the request of a draw in bounds, the quiet write of a draw that is not, and the empty surface. -/
theorem pixelDrawBoundsCheck : Obligations.PixelDrawBoundsCheck := by
  refine ⟨fun s v _ hin => ?_, fun s v _ hidle hout => ?_, fun s v _ hidle hempty => ?_⟩
  · refine ⟨_, exec_drawPixel_of_inBounds (s.inBounds_iff.mpr hin) v, (State.fillReq_iff _).mpr ?_⟩
    exact ⟨_, _, _, _, _, _, State.respond_event _⟩
  · have hskip : s.inBounds = false := Bool.eq_false_iff.mpr (mt s.inBounds_iff.mp hout)
    obtain ⟨t, hexec, hscr, hstores, hcompletes, hfsm, hcore, henv, hsent⟩ :=
      quietWrite_drawPixel_of_not_inBounds hidle hskip v
    exact ⟨t, hexec, hsent, hscr, hstores, hcompletes, hfsm, hcore, henv⟩
  · have hskip := State.inBounds_eq_false_of_empty hempty
    obtain ⟨t, hexec, _, _, _, _, _, _, hsent⟩ := quietWrite_drawPixel_of_not_inBounds hidle hskip v
    exact ⟨t, hexec, hsent⟩

end Sys2Proof.Machine
end

section
/-! Reads of the audio and file pages: no row but the default read takes them (44_stub_pages.md R100). -/

namespace Sys2Proof

/-- A row of one direction selects no word of the other. -/
theorem Row.selects_eq_false_of_direction {r : Row} {t : Txn} (c : Caps) (hmask : r.mask.isWrite = true)
    (hdirection : r.value.isWrite ≠ t.isWrite) : r.selects c t = false := by
  have hmismatch : t &&& r.mask ≠ r.value := fun hmatch => hdirection (Row.isWrite_of_matches hmask hmatch)
  simp [Row.selects, hmismatch]

/-- The pages with a read row of their own: system, screen and clock (30_encoding.md R54). -/
def specialReadPages : List Byte := [0x00, 0x20, 0xC0]

/-- Rows 1 to 23 are the reads of those pages, and rows 25 to 46 are writes (30_encoding.md R54). -/
theorem rows_write_or_specialReadPage : ∀ r ∈ rows, r.mask ≠ 0x10000 →
    (r.mask.isWrite = true ∧ r.value.isWrite = true) ∨
    (Machine.pg r.mask.addr = 0xF0 ∧ Machine.pg r.value.addr ∈ specialReadPages) := by decide

/-- On a page without a read row of its own every read is the default read, whatever the straps
(30_encoding.md R47). -/
theorem decode_read_of_other_page (c : Caps) {t : Txn} (hread : t.isWrite = false)
    (hpage : Machine.pg t.addr ∉ specialReadPages) : decode c t = some (.rdShadow t.addr) := by
  have hdecode : decode c t = some (if t.isWrite then .wrShadow t.addr t.data else .rdShadow t.addr) := by
    refine decode_eq_default fun r hr hmask => ?_
    rcases rows_write_or_specialReadPage r hr hmask with ⟨hdirection, hwrite⟩ | ⟨hport, hspecial⟩
    · exact Row.selects_eq_false_of_direction c hdirection (by simp [hwrite, hread])
    · exact Row.selects_eq_false_of_page c hport fun hsame => hpage (hsame ▸ hspecial)
  simpa [hread] using hdecode

/-- The address ranges of the audio and file pages hold no page with a read row of its own. -/
theorem pg_not_mem_specialReadPages_of_stub : ∀ a : Byte,
    (0x30 ≤ a.toNat ∧ a.toNat ≤ 0x6F) ∨ (0xA0 ≤ a.toNat ∧ a.toNat ≤ 0xBF) →
    Machine.pg a ∉ specialReadPages := by decide

end Sys2Proof

namespace Sys2Proof.Machine

/-- The default read completes with the shadow byte of its address and does nothing else (40_dispatch.md R62). -/
theorem exec_rdShadow (a : Byte) (s : State) :
    exec (.rdShadow a) s = .next (s.completeRead (s.readShadow a)) := rfl

/-- Settles O43: no read row of another page and no write row takes the word, and the default read only completes. -/
theorem stubPageReadsAreShadow : Obligations.StubPageReadsAreShadow := by
  intro c t hread hrange
  exact ⟨decode_read_of_other_page c hread (pg_not_mem_specialReadPages_of_stub t.addr hrange), fun s =>
    ⟨_, exec_rdShadow t.addr s, s.readGives_completeRead _, s.nothingSent_completeRead _⟩⟩

end Sys2Proof.Machine
end

section
/-! Reads of the clock inputs (45_clock_page.md R107 to R114). -/

namespace Sys2Proof.Machine

/-- A read row that only completes changes no state of the block, so what it answers is its byte alone
(40_dispatch.md R60). -/
theorem readGives_nothingSent_of_exec {i : Instr} {s : State} {b : Byte}
    (hexec : exec i s = .next (s.completeRead b)) :
    ∃ t, exec i s = .next t ∧ State.ReadGives s t b ∧ State.NothingSent s t :=
  ⟨_, hexec, s.readGives_completeRead b, s.nothingSent_completeRead b⟩

/-- Settles O17: rows 13 to 20, each of which completes with its input as sampled; the two halves of the year are the
only bytes cut from a wider input. -/
theorem clockReads : Obligations.ClockReads := by
  refine ⟨rowTakes_of_index 12 rfl (fun _ h => h) (by decide), rowTakes_of_index 13 rfl (fun _ h => h) (by decide),
    rowTakes_of_index 14 rfl (fun _ h => h) (by decide), rowTakes_of_index 15 rfl (fun _ h => h) (by decide),
    rowTakes_of_index 16 rfl (fun _ h => h) (by decide), rowTakes_of_index 17 rfl (fun _ h => h) (by decide),
    rowTakes_of_index 18 rfl (fun _ h => h) (by decide), rowTakes_of_index 19 rfl (fun _ h => h) (by decide),
    fun s => ⟨?yearHi, ?yearLo, ?month, ?day, ?hour, ?minute, ?second, ?weekday⟩⟩
  case yearHi => exact readGives_nothingSent_of_exec (b := hi8 s.pins.rtc.year) rfl
  case yearLo => exact readGives_nothingSent_of_exec (b := lo8 s.pins.rtc.year) rfl
  case month => exact readGives_nothingSent_of_exec (b := s.pins.rtc.month0) rfl
  case day => exact readGives_nothingSent_of_exec (b := s.pins.rtc.day0) rfl
  case hour => exact readGives_nothingSent_of_exec (b := s.pins.rtc.hour) rfl
  case minute => exact readGives_nothingSent_of_exec (b := s.pins.rtc.minute) rfl
  case second => exact readGives_nothingSent_of_exec (b := s.pins.rtc.second) rfl
  case weekday => exact readGives_nothingSent_of_exec (b := s.pins.rtc.weekday) rfl

end Sys2Proof.Machine
end

section
/-! No access faults, traps or reports an error (60_exceptions.md R126). -/

namespace Sys2Proof.Machine

/-- Every instruction is a read or a write, and each of the two answers a next state in whatever phase and build
(40_dispatch.md R59, R60). -/
theorem exec_exists_next (i : Instr) (s : State) : ∃ u, exec i s = .next u := by
  cases hi : i.isWrite with
  | false =>
    obtain ⟨u, hread, _⟩ := exec_of_read hi s
    exact ⟨u, hread⟩
  | true =>
    obtain ⟨_, hwrite, _⟩ := exec_of_write hi s
    exact ⟨_, hwrite⟩

/-- Settles O11: with no access presented the step only takes an answer, if there is one; a presented access has a row,
and the row answers a next state. -/
theorem stepNeverFaultsOrRefuses : Obligations.StepNeverFaultsOrRefuses := by
  intro s
  cases hp : s.presented with
  | none => exact ⟨_, step_of_presented_none hp⟩
  | some t =>
    obtain ⟨i, hd⟩ := exists_decode_eq_some s.caps t
    obtain ⟨u, hexec⟩ := exec_exists_next i s.takeSample.accept
    exact ⟨u, (step_of_presented hp hd).trans hexec⟩

end Sys2Proof.Machine
end

section
/-! Decoding and encoding are inverse to each other (30_encoding.md R45, R47, R48): every row that matches a word in its
build takes it, what it builds is well formed and has the word's fields, and the fields determine the word. -/

namespace Sys2Proof

/-! ### Rows that no word matches together -/

/-- No word matches a specific row and a row before it in the table: their match values differ under both masks. -/
theorem rows_pairwise_differ :
    rows.Pairwise (fun q r => r.mask ≠ 0x10000 → q.value &&& r.mask ≠ r.value &&& q.mask) := by decide

/-- A list in which any two entries are `R`-related, but none of its entries are, holds at most one. -/
theorem length_le_one_of_pairwise {α : Type} {R : α → α → Prop} {l : List α} (h : l.Pairwise R)
    (hnot : ∀ a ∈ l, ∀ b ∈ l, ¬ R a b) : l.length ≤ 1 := by
  match l with
  | [] => exact Nat.zero_le 1
  | [_] => exact le_rfl
  | a :: b :: _ => exact absurd (List.rel_of_pairwise_cons h (by simp)) (hnot a (by simp) b (by simp))

/-- Settles O3: the match values of two rows that match one word would agree under both masks. -/
theorem specificRowsDisjoint : Obligations.SpecificRowsDisjoint := by
  intro t
  refine length_le_one_of_pairwise (rows_pairwise_differ.filter _) fun q hq r hr hdiffer => ?_
  simp only [List.mem_filter, Bool.and_eq_true, bne_iff_ne, ne_eq, beq_iff_eq] at hq hr
  obtain ⟨_, _, hqmatch⟩ := hq
  obtain ⟨_, hmask, hrmatch⟩ := hr
  exact hdiffer hmask (Machine.values_agree_of_matches hqmatch hrmatch)

/-! ### The row that takes a word -/

/-- The capability requirement of a row (30_encoding.md R48). -/
def Row.heldIn (r : Row) (c : Caps) : Bool := (r.requires.map (Strap.holds c)).getD true

theorem Row.selects_iff {r : Row} {c : Caps} {t : Txn} :
    r.selects c t = true ↔ t &&& r.mask = r.value ∧ r.heldIn c = true := by
  simp [Row.selects, Row.heldIn]

/-- A specific row that selects a word is the one found, since no row before it matches the same word (30_encoding.md
R47). -/
theorem find_of_mem_rows {c : Caps} {t : Txn} {r : Row} (hr : r ∈ rows) (hmask : r.mask ≠ 0x10000)
    (hselects : r.selects c t = true) : rows.find? (Row.selects c t) = some r := by
  obtain ⟨before, after, hsplit⟩ := List.append_of_mem hr
  have hpairwise := rows_pairwise_differ
  rw [hsplit, List.pairwise_append] at hpairwise
  obtain ⟨_, _, hdiffer⟩ := hpairwise
  obtain ⟨hmatch, _⟩ := Row.selects_iff.mp hselects
  refine List.find?_eq_some_iff_append.mpr ⟨hselects, before, after, hsplit, fun q hq => ?_⟩
  have hmismatch : t &&& q.mask ≠ q.value := fun h =>
    hdiffer q hq r (by simp) hmask (Machine.values_agree_of_matches h hmatch)
  simp [Row.selects, hmismatch]

/-- The specific row at index `k` takes every word that matches it. Row `n` of 30_encoding.md R54 stands at index
`n - 1`. -/
theorem decode_of_row (k : Nat) {c : Caps} {t value mask : Txn} {requires : Option Strap} {build : Txn → Instr}
    (hrow : rows[k]? = some ⟨value, mask, requires, build⟩) (hmask : mask ≠ 0x10000) (hmatch : t &&& mask = value)
    (hheld : (requires.map (Strap.holds c)).getD true = true) : decode c t = some (build t) :=
  decode_eq_some.mpr
    ⟨_, find_of_mem_rows (List.mem_of_getElem? hrow) hmask (Row.selects_iff.mpr ⟨hmatch, hheld⟩), rfl⟩

/-! ### A word and its fields -/

/-- A transaction word is its direction, its address and its data byte (30_encoding.md R45). -/
theorem Txn.ext_fields {t u : Txn} (hw : t.isWrite = u.isWrite) (ha : t.addr = u.addr) (hd : t.data = u.data) :
    t = u := by
  refine BitVec.eq_of_getLsbD_eq fun i hi => ?_
  by_cases h8 : i < 8
  · simpa [Txn.data, h8] using congrArg (·.getLsbD i) hd
  · by_cases h16 : i < 16
    · have hi8 : i - 8 < 8 := by omega
      have hsum : 8 + (i - 8) = i := by omega
      simpa [Txn.addr, hi8, hsum] using congrArg (·.getLsbD (i - 8)) ha
    · obtain rfl : i = 16 := by omega
      exact hw

@[simp] theorem Txn.isWrite_canonical (t : Txn) : t.canonical.isWrite = t.isWrite := by
  cases hw : t.isWrite <;> simp [Txn.canonical, hw, Txn.isWrite_and]

@[simp] theorem Txn.addr_canonical (t : Txn) : t.canonical.addr = t.addr := by
  cases hw : t.isWrite with
  | true => simp [Txn.canonical, hw]
  | false =>
    rw [Txn.canonical, hw, if_neg Bool.false_ne_true, Txn.addr_and]
    exact BitVec.and_allOnes

theorem Txn.data_and (t m : Txn) : Txn.data (t &&& m) = t.data &&& m.data := by
  simp [Txn.data, BitVec.extractLsb'_and]

@[simp] theorem Txn.data_canonical (t : Txn) : t.canonical.data = if t.isWrite then t.data else 0x00 := by
  cases hw : t.isWrite with
  | true => simp [Txn.canonical, hw]
  | false =>
    rw [Txn.canonical, hw, if_neg Bool.false_ne_true, Txn.data_and]
    exact BitVec.and_zero

/-- The fields of a word that is put together from them (30_encoding.md R45). -/
theorem Txn.fields_pack (w : Bool) (a d : Byte) :
    (Txn.pack w a d).isWrite = w ∧ (Txn.pack w a d).addr = a ∧ (Txn.pack w a d).data = d := by
  have hpack : Txn.pack w a d = rowWord (Txn.pack w a 0x00) d := by simp [Txn.pack, rowWord]
  have hfields : ∀ w a, (Txn.pack w a 0x00).isWrite = w ∧ (Txn.pack w a 0x00).addr = a ∧
      (Txn.pack w a 0x00).data = 0x00 := by decide
  obtain ⟨hw, ha, hd⟩ := hfields w a
  rw [hpack, Laws.rowWord_isWrite, Laws.rowWord_addr, Laws.rowWord_data]
  exact ⟨hw, ha, by rw [hd]; exact BitVec.zero_or⟩

/-- What a mask that looks at the direction leaves of a word. -/
theorem Txn.and_eq_pack (t : Txn) {m : Txn} (hm : m.isWrite = true) :
    t &&& m = Txn.pack t.isWrite (t.addr &&& m.addr) (t.data &&& m.data) := by
  obtain ⟨hw, ha, hd⟩ := Txn.fields_pack t.isWrite (t.addr &&& m.addr) (t.data &&& m.data)
  refine Txn.ext_fields ?_ ?_ ?_
  · rw [hw, Txn.isWrite_and, hm, Bool.and_true]
  · rw [ha, Txn.addr_and]
  · rw [hd, Txn.data_and]

/-! ### What a row builds is well formed -/

/-- A specific row builds a well-formed instruction from every word that it selects. -/
def Row.KeepsWellFormed (r : Row) : Prop :=
  r.mask ≠ 0x10000 → ∀ c t, r.selects c t = true → (r.build t).wellFormed c = true

/-- The instruction of most rows is well formed in every build that has the capability of the row. -/
theorem Row.keepsWellFormed_of_held {r : Row} (h : ∀ c t, r.heldIn c = true → (r.build t).wellFormed c = true) :
    r.KeepsWellFormed :=
  fun _ c t hselects => h c t (Row.selects_iff.mp hselects).2

/-- The two draw rows look at bit 7 of the data byte, which is the mode bit (30_encoding.md R50). -/
theorem Row.mode_of_selects {r : Row} {c : Caps} {t : Txn} (hmask : r.mask = 0x1FF80) (h : r.selects c t = true) :
    t.data.getLsbD 7 = r.value.getLsbD 7 := by
  rw [← (Row.selects_iff.mp h).1, hmask]
  simp [Txn.data]

theorem rows_keepsWellFormed : ∀ r ∈ rows, r.KeepsWellFormed := by
  intro r hr
  fin_cases hr
  iterate 23 exact Row.keepsWellFormed_of_held fun _ _ h => h
  exact fun hmask => absurd rfl hmask
  iterate 13 exact Row.keepsWellFormed_of_held fun _ _ h => h
  · intro _ c t h
    have hheld : c.hasScreen = true := (Row.selects_iff.mp h).2
    have hmode : t.data.getLsbD 7 = false := Row.mode_of_selects rfl h
    show (c.hasScreen && !t.data.getLsbD 7) = true
    rw [hheld, hmode]
    rfl
  · intro _ c t h
    have hheld : c.hasScreen = true := (Row.selects_iff.mp h).2
    have hmode : t.data.getLsbD 7 = true := Row.mode_of_selects rfl h
    show (c.hasScreen && t.data.getLsbD 7) = true
    rw [hheld, hmode]
    rfl
  iterate 6 exact Row.keepsWellFormed_of_held fun _ _ h => h
  exact fun hmask => absurd rfl hmask

/-! ### The addresses that the specific rows take -/

/-- Some specific row for one direction and one requirement takes every word of an address, whatever its data byte. -/
def hasRow (w : Bool) (requires : Option Strap) (a : Byte) : Bool :=
  rows.any fun r => r.mask != 0x10000 && r.mask.isWrite && r.mask.data == 0x00 && r.requires == requires &&
    r.value == Txn.pack w (a &&& r.mask.addr) 0x00

/-- Such a row selects the word when its requirement holds. -/
theorem exists_selects_of_hasRow {c : Caps} {t : Txn} {w : Bool} (requires : Option Strap) (hw : t.isWrite = w)
    (h : hasRow w requires t.addr = true) (hheld : (requires.map (Strap.holds c)).getD true = true) :
    ∃ r ∈ rows, r.mask ≠ 0x10000 ∧ r.selects c t = true := by
  simp only [hasRow, List.any_eq_true, Bool.and_eq_true, bne_iff_ne, ne_eq, beq_iff_eq] at h
  obtain ⟨r, hr, ⟨⟨⟨hmask, hdirection⟩, hdata⟩, rfl⟩, hvalue⟩ := h
  refine ⟨r, hr, hmask, Row.selects_iff.mpr ⟨?_, hheld⟩⟩
  rw [hvalue, Txn.and_eq_pack t hdirection, hdata, hw]
  exact congrArg _ BitVec.and_zero

theorem hasRow_read_system : ∀ a : Byte, (a == 0x04 || a == 0x05) = true → hasRow false none a = true := by decide

theorem hasRow_read_screen : ∀ a : Byte, ((0x22 ≤ a && a ≤ 0x25) || (0x28 ≤ a && a ≤ 0x2D)) = true →
    hasRow false (some .screen) a = true := by decide

theorem hasRow_read_clock : ∀ a : Byte, (0xC0 ≤ a && a ≤ 0xCA) = true →
    hasRow false (some .clock) a = true := by decide

theorem hasRow_write_always : ∀ a : Byte, ((a == 0x03 || a == 0x04 || a == 0x05 || a == 0x0E) ||
    (0x30 ≤ a && a ≤ 0x6F) || (0xA0 ≤ a && a ≤ 0xBF)) = true → hasRow true none a = true := by decide

theorem hasRow_write_console : ∀ a : Byte, (a == 0x18 || a == 0x19) = true →
    hasRow true (some .console) a = true := by decide

theorem hasRow_write_screen : ∀ a : Byte, (a == 0x26 || (0x28 ≤ a && a ≤ 0x2E)) = true → a ≠ 0x2E →
    hasRow true (some .screen) a = true := by decide

/-- A special read is selected by a specific row (30_encoding.md R54, rows 1 to 23). -/
theorem exists_selects_of_specialRead {c : Caps} {t : Txn} (hread : t.isWrite = false)
    (h : specialRead c t.addr = true) : ∃ r ∈ rows, r.mask ≠ 0x10000 ∧ r.selects c t = true := by
  rw [specialRead, Bool.or_eq_true, Bool.or_eq_true, Bool.and_eq_true, Bool.and_eq_true] at h
  rcases h with (hsystem | ⟨hheld, hscreen⟩) | ⟨hheld, hclock⟩
  · exact exists_selects_of_hasRow none hread (hasRow_read_system _ hsystem) rfl
  · exact exists_selects_of_hasRow (some .screen) hread (hasRow_read_screen _ hscreen) hheld
  · exact exists_selects_of_hasRow (some .clock) hread (hasRow_read_clock _ hclock) hheld

/-- The draw port has one row for each value of the mode bit (30_encoding.md R50). -/
theorem exists_selects_of_draw {c : Caps} {t : Txn} (hwrite : t.isWrite = true) (haddr : t.addr = 0x2E)
    (hheld : c.hasScreen = true) : ∃ r ∈ rows, r.mask ≠ 0x10000 ∧ r.selects c t = true := by
  have hmode : ∀ v : Byte, v &&& 0x80 = 0x00 ∨ v &&& 0x80 = 0x80 := by decide
  have hmatch : t &&& 0x1FF80 = Txn.pack true 0x2E (t.data &&& 0x80) := by
    rw [Txn.and_eq_pack t rfl, hwrite, haddr]
    rfl
  rcases hmode t.data with h | h
  · exact ⟨_, List.mem_of_getElem? (i := 37) rfl, by decide, Row.selects_iff.mpr ⟨by rw [hmatch, h]; rfl, hheld⟩⟩
  · exact ⟨_, List.mem_of_getElem? (i := 38) rfl, by decide, Row.selects_iff.mpr ⟨by rw [hmatch, h]; rfl, hheld⟩⟩

/-- A special write is selected by a specific row (30_encoding.md R54, rows 25 to 45). -/
theorem exists_selects_of_specialWrite {c : Caps} {t : Txn} (hwrite : t.isWrite = true)
    (h : specialWrite c t.addr = true) : ∃ r ∈ rows, r.mask ≠ 0x10000 ∧ r.selects c t = true := by
  have hsplit : ((c.hasConsole && (t.addr == 0x18 || t.addr == 0x19)) ||
      (c.hasScreen && (t.addr == 0x26 || (0x28 ≤ t.addr && t.addr ≤ 0x2E))) ||
      ((t.addr == 0x03 || t.addr == 0x04 || t.addr == 0x05 || t.addr == 0x0E) ||
        (0x30 ≤ t.addr && t.addr ≤ 0x6F) || (0xA0 ≤ t.addr && t.addr ≤ 0xBF))) = true := by
    rw [← h, specialWrite]
    ac_rfl
  rw [Bool.or_eq_true, Bool.or_eq_true, Bool.and_eq_true, Bool.and_eq_true] at hsplit
  rcases hsplit with (⟨hheld, hconsole⟩ | ⟨hheld, hscreen⟩) | halways
  · exact exists_selects_of_hasRow (some .console) hwrite (hasRow_write_console _ hconsole) hheld
  · by_cases hdraw : t.addr = 0x2E
    · exact exists_selects_of_draw hwrite hdraw hheld
    · exact exists_selects_of_hasRow (some .screen) hwrite (hasRow_write_screen _ hscreen hdraw) hheld
  · exact exists_selects_of_hasRow none hwrite (hasRow_write_always _ halways) rfl

/-! ### From a word to its instruction and back -/

/-- A default row is found only when no specific row selects the word. -/
theorem not_special_of_find_default {c : Caps} {t : Txn} {r : Row} (hfind : rows.find? (Row.selects c t) = some r)
    (hmask : r.mask = 0x10000) : ¬ ∃ q ∈ rows, q.mask ≠ 0x10000 ∧ q.selects c t = true := by
  rintro ⟨q, hq, hqmask, hselects⟩
  obtain rfl : r = q := Option.some.inj (hfind.symm.trans (find_of_mem_rows hq hqmask hselects))
  exact hqmask hmask

/-- A decoded instruction is well formed under the straps it was decoded with (30_encoding.md R47, R48). -/
theorem decode_wellFormed {c : Caps} {t : Txn} {i : Instr} (h : decode c t = some i) : i.wellFormed c = true := by
  obtain ⟨r, hfind, rfl⟩ := decode_eq_some.mp h
  have hmem := List.mem_of_find?_eq_some hfind
  have hselects := List.find?_some hfind
  by_cases hmask : r.mask = 0x10000
  · have hnot := not_special_of_find_default hfind hmask
    have hmatch := (Row.selects_iff.mp hselects).1
    have hdefault : r ∈ rows.filter (fun r => r.mask == 0x10000) := List.mem_filter.mpr ⟨hmem, by simp [hmask]⟩
    rw [rows_filter_direction_mask] at hdefault
    rcases List.mem_pair.mp hdefault with rfl | rfl
    · have hread := (Row.isWrite_of_matches rfl hmatch).symm
      simpa [Instr.wellFormed] using mt (exists_selects_of_specialRead hread) hnot
    · have hwrite := (Row.isWrite_of_matches rfl hmatch).symm
      simpa [Instr.wellFormed] using mt (exists_selects_of_specialWrite hwrite) hnot
  · exact rows_keepsWellFormed r hmem hmask c t hselects

/-! ### From fields to the instruction -/

theorem Instr.HasFieldsOf.data_eq {i : Instr} {t : Txn} (h : i.HasFieldsOf t) (hi : i.isWrite = true) :
    t.data = i.data :=
  (h.2.2 hi).symm

/-- The port of a page's word is the low half of its address. -/
theorem Instr.HasFieldsOf.port_eq {i : Instr} {t : Txn} {q p : BitVec 4} (h : i.HasFieldsOf t)
    (hi : i.addr = q ++ p) : t.port = p := by
  have hlow : ∀ q p : BitVec 4, (q ++ p).extractLsb' 0 4 = p := by decide
  obtain ⟨_, haddr, _⟩ := h
  have happend := t.addr_eq_page_append_port
  rw [← haddr, hi] at happend
  have hport := congrArg (·.extractLsb' 0 4) happend
  simpa only [hlow] using hport.symm

section DecodeOfFields

variable {c : Caps} {t value mask : Txn} {requires : Option Strap} {build : Txn → Instr} {i : Instr}

/-- A specific row takes every word with the fields of its instruction whose data byte has the bits the row looks at. -/
theorem decode_of_fields (k : Nat) (hrow : rows[k]? = some ⟨value, mask, requires, build⟩) (hbuild : build t = i)
    (h : i.HasFieldsOf t) (hmask : mask ≠ 0x10000 ∧ mask.isWrite = true) (hw : value.isWrite = i.isWrite)
    (ha : value.addr = i.addr &&& mask.addr) (hd : value.data = t.data &&& mask.data)
    (hheld : (requires.map (Strap.holds c)).getD true = true) : decode c t = some i := by
  obtain ⟨hspecific, hdirection⟩ := hmask
  obtain ⟨hwrite, haddr, _⟩ := h
  have hmatch : t &&& mask = value := by
    refine Txn.ext_fields ?_ ?_ ?_
    · rw [Txn.isWrite_and, hdirection, Bool.and_true, hw, hwrite]
    · rw [Txn.addr_and, ha, haddr]
    · rw [Txn.data_and, hd]
  rw [decode_of_row k hrow hspecific hmatch hheld, hbuild]

/-- The row of one port takes every word with the fields of its instruction. -/
theorem decode_of_port (k : Nat) (hrow : rows[k]? = some ⟨value, 0x1FF00, requires, build⟩) (hbuild : build t = i)
    (h : i.HasFieldsOf t) (hw : value.isWrite = i.isWrite) (ha : value.addr = i.addr) (hd : value.data = 0x00)
    (hheld : (requires.map (Strap.holds c)).getD true = true) : decode c t = some i :=
  decode_of_fields k hrow hbuild h (by decide) hw (ha.trans BitVec.and_allOnes.symm) (hd.trans BitVec.and_zero.symm)
    hheld

/-- The row of a page takes every word with the fields of its instruction. -/
theorem decode_of_page (k : Nat) {q p : BitVec 4} (hrow : rows[k]? = some ⟨value, 0x1F000, requires, build⟩)
    (hbuild : build t = i) (h : i.HasFieldsOf t) (hi : i.addr = q ++ p) (hw : value.isWrite = i.isWrite)
    (ha : value.addr = q ++ 0#4) (hd : value.data = 0x00)
    (hheld : (requires.map (Strap.holds c)).getD true = true) : decode c t = some i := by
  have hpage : ∀ q p : BitVec 4, q ++ 0#4 = (q ++ p) &&& Txn.addr 0x1F000 := by decide
  exact decode_of_fields k hrow hbuild h (by decide) hw (by rw [ha, hi, hpage q p]) (hd.trans BitVec.and_zero.symm)
    hheld

end DecodeOfFields

/-! ### The default rows -/

/-- Every well-formed read but the default one is a special read. -/
theorem eq_rdShadow_or_specialRead {c : Caps} {i : Instr} (hi : i.isWrite = false) (hwf : i.wellFormed c = true) :
    i = .rdShadow i.addr ∨ specialRead c i.addr = true := by
  cases i with
  | rdSysWst | rdSysRst => exact .inr rfl
  | rdScrWidthHi | rdScrWidthLo | rdScrHeightHi | rdScrHeightLo | rdScrXHi | rdScrXLo | rdScrYHi | rdScrYLo
  | rdScrSprHi | rdScrSprLo =>
    have hscreen : c.hasScreen = true := hwf
    exact .inr (by simp [specialRead, Instr.addr, hscreen])
  | rdRtcYearHi | rdRtcYearLo | rdRtcMonth | rdRtcDay | rdRtcHour | rdRtcMinute | rdRtcSecond | rdRtcWeekday
  | rdRtcYdayHi | rdRtcYdayLo | rdRtcDst =>
    have hclock : c.hasClock = true := hwf
    exact .inr (by simp [specialRead, Instr.addr, hclock])
  | rdShadow => exact .inl rfl
  | _ => cases hi

/-- Every port of the audio and file pages is special to write (44_stub_pages.md R101 to R106). -/
theorem specialWrite_page (c : Caps) {q : BitVec 4} (p : BitVec 4)
    (hq : q ∈ [0x3#4, 0x4#4, 0x5#4, 0x6#4, 0xA#4, 0xB#4]) :
    specialWrite c (q ++ p) = true := by
  have hrange : ∀ q ∈ [0x3#4, 0x4#4, 0x5#4, 0x6#4, 0xA#4, 0xB#4], ∀ p : BitVec 4,
      (((0x30 : Byte) ≤ q ++ p && q ++ p ≤ (0x6F : Byte)) ||
        ((0xA0 : Byte) ≤ q ++ p && q ++ p ≤ (0xBF : Byte))) = true := by decide
  rw [specialWrite, Bool.or_assoc, hrange q hq p, Bool.or_true]

/-- Every well-formed write but the default one is a special write. -/
theorem eq_wrShadow_or_specialWrite {c : Caps} {i : Instr} (hi : i.isWrite = true) (hwf : i.wellFormed c = true) :
    i = .wrShadow i.addr i.data ∨ specialWrite c i.addr = true := by
  cases i with
  | wrSysExpansion | wrSysWst | wrSysRst | wrSysDebug => exact .inr rfl
  | wrConOut | wrConErr =>
    have hconsole : c.hasConsole = true := hwf
    exact .inr (by simp [specialWrite, Instr.addr, hconsole])
  | wrScrAuto | wrScrXHi | wrScrXLo | wrScrYHi | wrScrYLo | wrScrSprHi | wrScrSprLo =>
    have hscreen : c.hasScreen = true := hwf
    exact .inr (by simp [specialWrite, Instr.addr, hscreen])
  | wrScrDrawPixel | wrScrDrawFill =>
    have hscreen : c.hasScreen = true := (Bool.and_eq_true_iff.mp hwf).1
    exact .inr (by simp [specialWrite, Instr.addr, hscreen])
  | wrAudioP3 p | wrAudioP4 p | wrAudioP5 p | wrAudioP6 p | wrFilePa p | wrFilePb p =>
    exact .inr (specialWrite_page c p (by decide))
  | wrShadow => exact .inl rfl
  | _ => cases hi

/-- The default read takes every read that is not special (40_dispatch.md R62). -/
theorem decode_read_default {c : Caps} {t : Txn} (hread : t.isWrite = false) (h : specialRead c t.addr = false) :
    decode c t = some (.rdShadow t.addr) := by
  obtain ⟨i, hd⟩ := exists_decode_eq_some c t
  obtain ⟨hdirection, haddr, _⟩ := decode_hasFieldsOf hd
  rcases eq_rdShadow_or_specialRead (hdirection.trans hread) (decode_wellFormed hd) with hi | hspecial
  · rw [hd, hi, haddr]
  · rw [haddr, h] at hspecial
    cases hspecial

/-- The default write takes every write that is not special (40_dispatch.md R63). -/
theorem decode_write_default {c : Caps} {t : Txn} (hwrite : t.isWrite = true) (h : specialWrite c t.addr = false) :
    decode c t = some (.wrShadow t.addr t.data) := by
  obtain ⟨i, hd⟩ := exists_decode_eq_some c t
  obtain ⟨hdirection, haddr, hdata⟩ := decode_hasFieldsOf hd
  have hi := hdirection.trans hwrite
  rcases eq_wrShadow_or_specialWrite hi (decode_wellFormed hd) with heq | hspecial
  · rw [hd, heq, haddr, hdata hi]
  · rw [haddr, h] at hspecial
    cases hspecial

/-! ### Decoding and encoding -/

theorem drawMode_clear : ∀ v : Byte, (!v.getLsbD 7) = true → v &&& 0x80 = 0x00 := by decide

theorem drawMode_set : ∀ v : Byte, v.getLsbD 7 = true → v &&& 0x80 = 0x80 := by decide

/-- A well-formed instruction is what every word with its fields decodes to: one row of 30_encoding.md R54 each. -/
theorem decode_of_hasFieldsOf {c : Caps} {t : Txn} {i : Instr} (hwf : i.wellFormed c = true) (h : i.HasFieldsOf t) :
    decode c t = some i := by
  cases i with
  | rdSysWst => exact decode_of_port 0 rfl rfl h rfl rfl rfl rfl
  | rdSysRst => exact decode_of_port 1 rfl rfl h rfl rfl rfl rfl
  | rdScrWidthHi => exact decode_of_port 2 rfl rfl h rfl rfl rfl hwf
  | rdScrWidthLo => exact decode_of_port 3 rfl rfl h rfl rfl rfl hwf
  | rdScrHeightHi => exact decode_of_port 4 rfl rfl h rfl rfl rfl hwf
  | rdScrHeightLo => exact decode_of_port 5 rfl rfl h rfl rfl rfl hwf
  | rdScrXHi => exact decode_of_port 6 rfl rfl h rfl rfl rfl hwf
  | rdScrXLo => exact decode_of_port 7 rfl rfl h rfl rfl rfl hwf
  | rdScrYHi => exact decode_of_port 8 rfl rfl h rfl rfl rfl hwf
  | rdScrYLo => exact decode_of_port 9 rfl rfl h rfl rfl rfl hwf
  | rdScrSprHi => exact decode_of_port 10 rfl rfl h rfl rfl rfl hwf
  | rdScrSprLo => exact decode_of_port 11 rfl rfl h rfl rfl rfl hwf
  | rdRtcYearHi => exact decode_of_port 12 rfl rfl h rfl rfl rfl hwf
  | rdRtcYearLo => exact decode_of_port 13 rfl rfl h rfl rfl rfl hwf
  | rdRtcMonth => exact decode_of_port 14 rfl rfl h rfl rfl rfl hwf
  | rdRtcDay => exact decode_of_port 15 rfl rfl h rfl rfl rfl hwf
  | rdRtcHour => exact decode_of_port 16 rfl rfl h rfl rfl rfl hwf
  | rdRtcMinute => exact decode_of_port 17 rfl rfl h rfl rfl rfl hwf
  | rdRtcSecond => exact decode_of_port 18 rfl rfl h rfl rfl rfl hwf
  | rdRtcWeekday => exact decode_of_port 19 rfl rfl h rfl rfl rfl hwf
  | rdRtcYdayHi => exact decode_of_port 20 rfl rfl h rfl rfl rfl hwf
  | rdRtcYdayLo => exact decode_of_port 21 rfl rfl h rfl rfl rfl hwf
  | rdRtcDst => exact decode_of_port 22 rfl rfl h rfl rfl rfl hwf
  | rdShadow a =>
    obtain ⟨hread, haddr, _⟩ := h
    obtain rfl : a = t.addr := haddr
    exact decode_read_default hread.symm (by simpa [Instr.wellFormed] using hwf)
  | wrSysExpansion => exact decode_of_port 24 rfl (congrArg _ (h.data_eq rfl)) h rfl rfl rfl rfl
  | wrSysWst => exact decode_of_port 25 rfl (congrArg _ (h.data_eq rfl)) h rfl rfl rfl rfl
  | wrSysRst => exact decode_of_port 26 rfl (congrArg _ (h.data_eq rfl)) h rfl rfl rfl rfl
  | wrSysDebug => exact decode_of_port 27 rfl (congrArg _ (h.data_eq rfl)) h rfl rfl rfl rfl
  | wrConOut => exact decode_of_port 28 rfl (congrArg _ (h.data_eq rfl)) h rfl rfl rfl hwf
  | wrConErr => exact decode_of_port 29 rfl (congrArg _ (h.data_eq rfl)) h rfl rfl rfl hwf
  | wrScrAuto => exact decode_of_port 30 rfl (congrArg _ (h.data_eq rfl)) h rfl rfl rfl hwf
  | wrScrXHi => exact decode_of_port 31 rfl (congrArg _ (h.data_eq rfl)) h rfl rfl rfl hwf
  | wrScrXLo => exact decode_of_port 32 rfl (congrArg _ (h.data_eq rfl)) h rfl rfl rfl hwf
  | wrScrYHi => exact decode_of_port 33 rfl (congrArg _ (h.data_eq rfl)) h rfl rfl rfl hwf
  | wrScrYLo => exact decode_of_port 34 rfl (congrArg _ (h.data_eq rfl)) h rfl rfl rfl hwf
  | wrScrSprHi => exact decode_of_port 35 rfl (congrArg _ (h.data_eq rfl)) h rfl rfl rfl hwf
  | wrScrSprLo => exact decode_of_port 36 rfl (congrArg _ (h.data_eq rfl)) h rfl rfl rfl hwf
  | wrScrDrawPixel v =>
    obtain ⟨hscreen, hmode⟩ := Bool.and_eq_true_iff.mp hwf
    have hdata := h.data_eq rfl
    exact decode_of_fields 37 rfl (congrArg _ hdata) h (by decide) rfl BitVec.and_allOnes.symm
      (hdata ▸ (drawMode_clear v hmode).symm) hscreen
  | wrScrDrawFill v =>
    obtain ⟨hscreen, hmode⟩ := Bool.and_eq_true_iff.mp hwf
    have hdata := h.data_eq rfl
    exact decode_of_fields 38 rfl (congrArg _ hdata) h (by decide) rfl BitVec.and_allOnes.symm
      (hdata ▸ (drawMode_set v hmode).symm) hscreen
  | wrAudioP3 => exact decode_of_page 39 rfl (congrArg₂ _ (h.port_eq rfl) (h.data_eq rfl)) h rfl rfl rfl rfl rfl
  | wrAudioP4 => exact decode_of_page 40 rfl (congrArg₂ _ (h.port_eq rfl) (h.data_eq rfl)) h rfl rfl rfl rfl rfl
  | wrAudioP5 => exact decode_of_page 41 rfl (congrArg₂ _ (h.port_eq rfl) (h.data_eq rfl)) h rfl rfl rfl rfl rfl
  | wrAudioP6 => exact decode_of_page 42 rfl (congrArg₂ _ (h.port_eq rfl) (h.data_eq rfl)) h rfl rfl rfl rfl rfl
  | wrFilePa => exact decode_of_page 43 rfl (congrArg₂ _ (h.port_eq rfl) (h.data_eq rfl)) h rfl rfl rfl rfl rfl
  | wrFilePb => exact decode_of_page 44 rfl (congrArg₂ _ (h.port_eq rfl) (h.data_eq rfl)) h rfl rfl rfl rfl rfl
  | wrShadow a v =>
    obtain rfl : t.data = v := h.data_eq rfl
    obtain ⟨hwrite, haddr, _⟩ := h
    obtain rfl : a = t.addr := haddr
    exact decode_write_default hwrite.symm (by simpa [Instr.wellFormed] using hwf)

/-- What a word decodes to is the well-formed instruction with its fields. -/
theorem decode_eq_some_iff_fields {c : Caps} {t : Txn} {i : Instr} :
    decode c t = some i ↔ i.wellFormed c = true ∧ i.HasFieldsOf t :=
  ⟨fun h => ⟨decode_wellFormed h, decode_hasFieldsOf h⟩, fun ⟨hwf, h⟩ => decode_of_hasFieldsOf hwf h⟩

/-- The word of every well-formed instruction carries its fields (30_encoding.md R45). -/
theorem encode_fields : ∀ i : Instr, Laws.EncodeFields.Statement i
  | .rdSysWst => Laws.EncodeFields.rdSysWst
  | .rdSysRst => Laws.EncodeFields.rdSysRst
  | .rdScrWidthHi => Laws.EncodeFields.rdScrWidthHi
  | .rdScrWidthLo => Laws.EncodeFields.rdScrWidthLo
  | .rdScrHeightHi => Laws.EncodeFields.rdScrHeightHi
  | .rdScrHeightLo => Laws.EncodeFields.rdScrHeightLo
  | .rdScrXHi => Laws.EncodeFields.rdScrXHi
  | .rdScrXLo => Laws.EncodeFields.rdScrXLo
  | .rdScrYHi => Laws.EncodeFields.rdScrYHi
  | .rdScrYLo => Laws.EncodeFields.rdScrYLo
  | .rdScrSprHi => Laws.EncodeFields.rdScrSprHi
  | .rdScrSprLo => Laws.EncodeFields.rdScrSprLo
  | .rdRtcYearHi => Laws.EncodeFields.rdRtcYearHi
  | .rdRtcYearLo => Laws.EncodeFields.rdRtcYearLo
  | .rdRtcMonth => Laws.EncodeFields.rdRtcMonth
  | .rdRtcDay => Laws.EncodeFields.rdRtcDay
  | .rdRtcHour => Laws.EncodeFields.rdRtcHour
  | .rdRtcMinute => Laws.EncodeFields.rdRtcMinute
  | .rdRtcSecond => Laws.EncodeFields.rdRtcSecond
  | .rdRtcWeekday => Laws.EncodeFields.rdRtcWeekday
  | .rdRtcYdayHi => Laws.EncodeFields.rdRtcYdayHi
  | .rdRtcYdayLo => Laws.EncodeFields.rdRtcYdayLo
  | .rdRtcDst => Laws.EncodeFields.rdRtcDst
  | .rdShadow a => Laws.EncodeFields.rdShadow a
  | .wrSysExpansion v => Laws.EncodeFields.wrSysExpansion v
  | .wrSysWst v => Laws.EncodeFields.wrSysWst v
  | .wrSysRst v => Laws.EncodeFields.wrSysRst v
  | .wrSysDebug v => Laws.EncodeFields.wrSysDebug v
  | .wrConOut v => Laws.EncodeFields.wrConOut v
  | .wrConErr v => Laws.EncodeFields.wrConErr v
  | .wrScrAuto v => Laws.EncodeFields.wrScrAuto v
  | .wrScrXHi v => Laws.EncodeFields.wrScrXHi v
  | .wrScrXLo v => Laws.EncodeFields.wrScrXLo v
  | .wrScrYHi v => Laws.EncodeFields.wrScrYHi v
  | .wrScrYLo v => Laws.EncodeFields.wrScrYLo v
  | .wrScrSprHi v => Laws.EncodeFields.wrScrSprHi v
  | .wrScrSprLo v => Laws.EncodeFields.wrScrSprLo v
  | .wrScrDrawPixel v => Laws.EncodeFields.wrScrDrawPixel v
  | .wrScrDrawFill v => Laws.EncodeFields.wrScrDrawFill v
  | .wrAudioP3 port v => Laws.EncodeFields.wrAudioP3 port v
  | .wrAudioP4 port v => Laws.EncodeFields.wrAudioP4 port v
  | .wrAudioP5 port v => Laws.EncodeFields.wrAudioP5 port v
  | .wrAudioP6 port v => Laws.EncodeFields.wrAudioP6 port v
  | .wrFilePa port v => Laws.EncodeFields.wrFilePa port v
  | .wrFilePb port v => Laws.EncodeFields.wrFilePb port v
  | .wrShadow a v => Laws.EncodeFields.wrShadow a v

/-- Settles O1: the encoded word has the fields of its instruction, and these determine what it decodes to. -/
theorem decodeOfEncode : Obligations.DecodeOfEncode := by
  intro c i hwf
  obtain ⟨hw, ha, hd⟩ := encode_fields i c hwf
  exact decode_of_hasFieldsOf hwf ⟨hw.symm, ha.symm, fun _ => hd.symm⟩

theorem Instr.data_of_read {i : Instr} (hi : i.isWrite = false) : i.data = 0x00 := by
  cases i with
  | wrSysExpansion | wrSysWst | wrSysRst | wrSysDebug | wrConOut | wrConErr | wrScrAuto | wrScrXHi | wrScrXLo
  | wrScrYHi | wrScrYLo | wrScrSprHi | wrScrSprLo | wrScrDrawPixel | wrScrDrawFill | wrAudioP3 | wrAudioP4
  | wrAudioP5 | wrAudioP6 | wrFilePa | wrFilePb | wrShadow => cases hi
  | _ => rfl

/-- Settles O2: some row takes the word, and what it builds has the fields of the word's canonical form. -/
theorem encodeOfDecode : Obligations.EncodeOfDecode := by
  intro c t
  obtain ⟨i, hdecode⟩ := exists_decode_eq_some c t
  have hwf := decode_wellFormed hdecode
  obtain ⟨hencw, henca, hencd⟩ := encode_fields i c hwf
  obtain ⟨hw, ha, hd⟩ := decode_hasFieldsOf hdecode
  refine ⟨i, hdecode, hwf, Txn.ext_fields ?_ ?_ ?_⟩
  · rw [hencw, hw, Txn.isWrite_canonical]
  · rw [henca, ha, Txn.addr_canonical]
  · rw [hencd, Txn.data_canonical, ← hw]
    cases hi : i.isWrite with
    | true => exact hd hi
    | false => exact Instr.data_of_read hi

/-- Settles O4: a read's instruction has its word's direction and address, whatever the data byte. -/
theorem readDataIgnoredByDecode : Obligations.ReadDataIgnoredByDecode := by
  intro c t d hread
  obtain ⟨i, hdecode⟩ := exists_decode_eq_some c t
  obtain ⟨hw, ha, _⟩ := decode_hasFieldsOf hdecode
  obtain ⟨hpackw, hpacka, _⟩ := Txn.fields_pack false t.addr d
  have hi : i.isWrite = false := hw.trans hread
  rw [hdecode]
  exact decode_of_hasFieldsOf (decode_wellFormed hdecode)
    ⟨hi.trans hpackw.symm, ha.trans hpacka.symm, fun hwrite => absurd (hi.symm.trans hwrite) Bool.false_ne_true⟩

/-- Settles O5: every specific row of the three pages requires the strap of its page. -/
theorem absentCapabilityIsShadowOnly : Obligations.AbsentCapabilityIsShadowOnly := by
  rintro c t (⟨hpage, habsent⟩ | ⟨hpage, habsent⟩ | ⟨hpage, habsent⟩)
  · exact decode_of_absent_page (strap := .console) habsent (by rw [hpage]; decide)
  · exact decode_of_absent_screen habsent hpage
  · exact decode_of_absent_page (strap := .clock) habsent (by rw [hpage]; decide)

/-- Settles O6: each word has the fields of the instruction, which is well formed in the build. -/
theorem specWordsDecode : Obligations.SpecWordsDecode := by
  simp only [Obligations.SpecWordsDecode, decode_eq_some_iff_fields, Instr.HasFieldsOf]
  decide

end Sys2Proof
end

section
/-! What the row of a write does between its shadow store and its completion (40_dispatch.md R59), said once: one of
eleven updates. -/

namespace Sys2Proof.Machine

/-! ### The updates of the rows of writes -/

/-- The update that sets the auto fields and the length from the auto byte (43_screen_page.md R85). -/
def State.setAuto (v : Byte) (s : State) : State :=
  { s with scr := { s.scr with
      autoX := autoByteX v
      autoY := autoByteY v
      autoSprite := autoByteSprite v
      length := autoByteLength v } }

/-- The update of a pixel draw (43_screen_page.md R94). -/
def State.drawPixel (v : Byte) (s : State) : State :=
  if s.inBounds then (s.requestFill true s.scr.x s.scr.y 1 1 (drawColour v) (drawFg v)).respond else s

/-- The surface request of a fill draw (43_screen_page.md R95). -/
def State.requestRectangle (v : Byte) (s : State) : State :=
  s.requestFill false
    (fillSpan (drawFlipX v) s.scr.x s.pins.surfW).1 (fillSpan (drawFlipY v) s.scr.y s.pins.surfH).1
    (fillSpan (drawFlipX v) s.scr.x s.pins.surfW).2 (fillSpan (drawFlipY v) s.scr.y s.pins.surfH).2
    (drawColour v) (drawFg v)

/-- The updates that the rows of writes make after the shadow store, each with the strap its row requires, the addresses
it stands at and its data byte. -/
inductive RowUpdate : Option Strap → Byte → Byte → (State → State) → Prop where
  | nothing (a v : Byte) : RowUpdate none a v (fun t => t)
  | diag (code : DiagCode) (a v : Byte) : RowUpdate none a v (fun t => t.diag code a v)
  | diagUnlessZero (code : DiagCode) (a v : Byte) :
    RowUpdate none a v (fun t => if v = 0x00 then t else t.diag code a v)
  | strobe (sp : CoreReg) (a v : Byte) : RowUpdate none a v (fun t => t.coreWrite sp v)
  | console (chan : Chan) (a v : Byte) : RowUpdate (some .console) a v (fun t => (t.requestConsole chan v).respond)
  | auto (v : Byte) : RowUpdate (some .screen) 0x26 v (State.setAuto v)
  | composeX (a v : Byte) : RowUpdate (some .screen) a v State.composeX
  | composeY (a v : Byte) : RowUpdate (some .screen) a v State.composeY
  | composeSprite (a v : Byte) (ha : a = 0x2C ∨ a = 0x2D) : RowUpdate (some .screen) a v State.composeSprite
  | pixel (a v : Byte) : RowUpdate (some .screen) a v (State.drawPixel v)
  | fill (a v : Byte) : RowUpdate (some .screen) a v (fun t => (t.requestRectangle v).respond)

/-- Performing `i` is a write of its data byte at its address whose row makes one of these updates, and the strap the
row requires is set wherever `i` is well formed. -/
def Instr.WritesWith (i : Instr) (row : State → State) : Prop :=
  (∀ s, exec i s = .next (s.performWrite i.addr i.data row)) ∧
  ∃ requires, RowUpdate requires i.addr i.data row ∧
    ∀ c, i.wellFormed c = true → (requires.map (Strap.holds c)).getD true = true

/-- The rows of the stub pages report the address that their instruction names. -/
theorem writesWith_stub {i : Instr} (code : DiagCode) (q p : BitVec 4) (v : Byte)
    (hexec : ∀ s, exec i s = .next (stubWrite code (pageAddr q p) v s)) (ha : i.addr = q ++ p) (hd : i.data = v) :
    Instr.WritesWith i (fun t => t.diag code i.addr i.data) := by
  rw [pageAddr_eq_append] at hexec
  rw [ha, hd]
  exact ⟨fun s => by rw [hexec, ha, hd]; rfl, none, ha ▸ hd ▸ .diag code _ _, fun _ _ => rfl⟩

/-- Every write stores its byte and makes one of the updates (40_dispatch.md R59). -/
theorem exists_writesWith {i : Instr} (hi : i.isWrite = true) : ∃ row, Instr.WritesWith i row := by
  cases i with
  | wrSysExpansion v => exact ⟨_, fun _ => rfl, none, .diagUnlessZero .expansion 0x03 v, fun _ _ => rfl⟩
  | wrSysWst v => exact ⟨_, fun _ => rfl, none, .strobe .wst 0x04 v, fun _ _ => rfl⟩
  | wrSysRst v => exact ⟨_, fun _ => rfl, none, .strobe .rst 0x05 v, fun _ _ => rfl⟩
  | wrSysDebug v => exact ⟨_, fun _ => rfl, none, .diagUnlessZero .stackDump 0x0E v, fun _ _ => rfl⟩
  | wrConOut v => exact ⟨_, fun _ => rfl, some .console, .console .out 0x18 v, fun _ h => h⟩
  | wrConErr v => exact ⟨_, fun _ => rfl, some .console, .console .err 0x19 v, fun _ h => h⟩
  | wrScrAuto v => exact ⟨_, fun _ => rfl, some .screen, .auto v, fun _ h => h⟩
  | wrScrXHi v => exact ⟨_, fun _ => rfl, some .screen, .composeX 0x28 v, fun _ h => h⟩
  | wrScrXLo v => exact ⟨_, fun _ => rfl, some .screen, .composeX 0x29 v, fun _ h => h⟩
  | wrScrYHi v => exact ⟨_, fun _ => rfl, some .screen, .composeY 0x2A v, fun _ h => h⟩
  | wrScrYLo v => exact ⟨_, fun _ => rfl, some .screen, .composeY 0x2B v, fun _ h => h⟩
  | wrScrSprHi v => exact ⟨_, fun _ => rfl, some .screen, .composeSprite 0x2C v (.inl rfl), fun _ h => h⟩
  | wrScrSprLo v => exact ⟨_, fun _ => rfl, some .screen, .composeSprite 0x2D v (.inr rfl), fun _ h => h⟩
  | wrScrDrawPixel v =>
    exact ⟨_, fun _ => rfl, some .screen, .pixel 0x2E v, fun _ h => (Bool.and_eq_true_iff.mp h).1⟩
  | wrScrDrawFill v => exact ⟨_, fun _ => rfl, some .screen, .fill 0x2E v, fun _ h => (Bool.and_eq_true_iff.mp h).1⟩
  | wrAudioP3 p v => exact ⟨_, writesWith_stub .audioWrite 0x3 p v (fun _ => rfl) rfl rfl⟩
  | wrAudioP4 p v => exact ⟨_, writesWith_stub .audioWrite 0x4 p v (fun _ => rfl) rfl rfl⟩
  | wrAudioP5 p v => exact ⟨_, writesWith_stub .audioWrite 0x5 p v (fun _ => rfl) rfl rfl⟩
  | wrAudioP6 p v => exact ⟨_, writesWith_stub .audioWrite 0x6 p v (fun _ => rfl) rfl rfl⟩
  | wrFilePa p v => exact ⟨_, writesWith_stub .fileWrite 0xA p v (fun _ => rfl) rfl rfl⟩
  | wrFilePb p v => exact ⟨_, writesWith_stub .fileWrite 0xB p v (fun _ => rfl) rfl rfl⟩
  | wrShadow a v => exact ⟨_, fun _ => rfl, none, .nothing a v, fun _ _ => rfl⟩
  | _ => cases hi

/-! ### What the updates leave alone -/

theorem State.drawPixel_of_inBounds {s : State} (h : s.inBounds = true) (v : Byte) :
    s.drawPixel v = (s.requestFill true s.scr.x s.scr.y 1 1 (drawColour v) (drawFg v)).respond := if_pos h

theorem State.drawPixel_of_not_inBounds {s : State} (h : s.inBounds = false) (v : Byte) : s.drawPixel v = s :=
  if_neg (by simp [h])

/-- No update touches the shadow file or what the environment presents. -/
theorem RowUpdate.frame {requires : Option Strap} {a v : Byte} {row : State → State}
    (h : RowUpdate requires a v row) (s : State) :
    (row s).shadow = s.shadow ∧ State.SameEnvironment s (row s) := by
  cases h with
  | nothing | auto | composeX | composeY | composeSprite => exact ⟨rfl, rfl, rfl, rfl, rfl, rfl⟩
  | diag | strobe | console | fill => simp [State.SameEnvironment, State.requestRectangle]
  | diagUnlessZero =>
    dsimp only
    split
    · exact ⟨rfl, rfl, rfl, rfl, rfl, rfl⟩
    · simp [State.SameEnvironment]
  | pixel =>
    cases hin : s.inBounds with
    | true => simp [State.drawPixel_of_inBounds hin, State.SameEnvironment]
    | false => simp [State.drawPixel_of_not_inBounds hin, State.SameEnvironment]

theorem State.diag_sends_at_most_one (s : State) (code : DiagCode) (a v : Byte) :
    ∃ es, (s.diag code a v).sent = es ++ s.sent ∧ es.length ≤ 1 := by
  cases hdiag : s.caps.hasDiag with
  | true => exact ⟨[.diag code a v], by simp [hdiag], le_rfl⟩
  | false => exact ⟨[], by simp [hdiag], Nat.zero_le 1⟩

/-- An update hands over at most one event (40_dispatch.md R61). -/
theorem RowUpdate.sends_at_most_one {requires : Option Strap} {a v : Byte} {row : State → State}
    (h : RowUpdate requires a v row) (s : State) : ∃ es, (row s).sent = es ++ s.sent ∧ es.length ≤ 1 := by
  cases h with
  | nothing | auto | composeX | composeY | composeSprite => exact ⟨[], rfl, Nat.zero_le 1⟩
  | diag code => exact s.diag_sends_at_most_one code a v
  | diagUnlessZero code =>
    dsimp only
    split
    · exact ⟨[], rfl, Nat.zero_le 1⟩
    · exact s.diag_sends_at_most_one code a v
  | strobe | console | fill => exact ⟨[_], by simp [State.requestRectangle]; rfl, le_rfl⟩
  | pixel =>
    cases hin : s.inBounds with
    | true => exact ⟨[_], by simp [State.drawPixel_of_inBounds hin]; rfl, le_rfl⟩
    | false => exact ⟨[], by simp [State.drawPixel_of_not_inBounds hin], Nat.zero_le 1⟩

end Sys2Proof.Machine
end

section
/-! The shadow file and the events over a step and a run (10_state.md R14, 20_memory.md R31, 40_dispatch.md R61). -/

namespace Sys2Proof.Machine

/-! ### Performing an access -/

/-- Everything that performing an access can do: a read completes with its byte and changes no state, a write stores
its byte and makes the update of its row (40_dispatch.md R59, R60). -/
theorem exec_cases {i : Instr} {s u : State} (h : exec i s = .next u) :
    (i.isWrite = false ∧ (∃ b, State.ReadGives s u b) ∧ (State.NothingSent s u ∨ ∃ e, State.Sends s u e)) ∨
    (i.isWrite = true ∧ ∃ row, Instr.WritesWith i row ∧ u = s.performWrite i.addr i.data row) := by
  cases hi : i.isWrite with
  | false =>
    obtain ⟨t, b, hread, hgives, hquiet, hdst⟩ := readsChangeNoState i s hi
    obtain rfl : t = u := Host.Outcome.next.inj (hread.symm.trans h)
    refine .inl ⟨rfl, ⟨b, hgives⟩, ?_⟩
    by_cases hi : i = .rdRtcDst
    · have hsends := hdst hi
      unfold State.SendsDiag at hsends
      split at hsends
      · exact .inr ⟨_, hsends⟩
      · exact .inl hsends
    · exact .inl (hquiet hi)
  | true =>
    obtain ⟨row, hwrites⟩ := exists_writesWith hi
    exact .inr ⟨rfl, row, hwrites, (Host.Outcome.next.inj ((hwrites.1 s).symm.trans h)).symm⟩

/-- Settles O22: the row of a write touches neither the shadow file nor the environment. -/
theorem everyWriteStoresItsByte : Obligations.EveryWriteStoresItsByte := by
  intro i s hi
  obtain ⟨row, hexec, _, hrow, _⟩ := exists_writesWith hi
  obtain ⟨hshadow, henv⟩ := hrow.frame (s.storeShadow i.addr i.data)
  exact ⟨_, hexec s, s.performWrite_readShadow i.addr i.data row hshadow, henv⟩

/-- Performing an access keeps the canonical form of the shadow file (20_memory.md R31). -/
theorem exec_keeps_shadow_wf {i : Instr} {s u : State} (hs : Memory.wf s.shadow) (h : exec i s = .next u) :
    Memory.wf u.shadow := by
  rcases exec_cases h with ⟨_, ⟨_, _, _, hshadow, _⟩, _⟩ | ⟨_, row, ⟨_, _, hrow, _⟩, rfl⟩
  · exact hshadow ▸ hs
  · exact State.performWrite_wf hs _ _ row (hrow.frame _).1

/-- Performing an access hands over at most one event, and what was handed over before stays below it (40_dispatch.md
R61). -/
theorem exec_sends_at_most_one {i : Instr} {s u : State} (h : exec i s = .next u) :
    ∃ es, u.sent = es ++ s.sent ∧ es.length ≤ 1 := by
  rcases exec_cases h with ⟨_, _, ⟨_, hnothing⟩ | ⟨e, _, hsent⟩⟩ | ⟨_, row, ⟨_, _, hrow, _⟩, rfl⟩
  · exact ⟨[], hnothing, Nat.zero_le 1⟩
  · exact ⟨[e], hsent, le_rfl⟩
  · exact hrow.sends_at_most_one (s.storeShadow i.addr i.data)

/-- Performing an access keeps the straps (00_scope.md R7). -/
theorem exec_caps {i : Instr} {s u : State} (h : exec i s = .next u) : u.caps = s.caps := by
  rcases exec_cases h with ⟨_, ⟨_, _, _, _, _, _, _, _, hcaps, _⟩, _⟩ | ⟨_, row, ⟨_, _, hrow, _⟩, rfl⟩
  · exact hcaps
  · exact (hrow.frame (s.storeShadow i.addr i.data)).2.1

/-! ### One step -/

/-- Settles O48: an answer does not touch the shadow file, and an access keeps its form. -/
theorem stepKeepsShadowCanonical : Obligations.StepKeepsShadowCanonical := by
  intro s u hs h
  rcases step_next_inv h with ⟨_, rfl⟩ | ⟨_, i, _, _, he⟩
  · rw [State.respond_shadow]
    exact hs
  · exact exec_keeps_shadow_wf (s := s.takeSample.accept) hs he

/-- Settles O53: the presented access, if there is one, has the direction, the address and the data of its word. -/
theorem onlyWritesChangeShadow : Obligations.OnlyWritesChangeShadow := by
  intro s
  obtain ⟨u, h⟩ := stepNeverFaultsOrRefuses s
  refine ⟨u, h, ?_⟩
  rcases step_next_inv h with ⟨hnone, rfl⟩ | ⟨t, i, hp, hd, he⟩
  · exact ⟨fun t hp => absurd (hnone.symm.trans hp) (by simp), fun _ a => by simp⟩
  · obtain ⟨_, hbyte⟩ := exec_next_inv he
    obtain ⟨hdirection, haddr, hdata⟩ := decode_hasFieldsOf hd
    refine ⟨fun t' hp' hwrite a => ?_, fun hreads a => ?_⟩
    · obtain rfl : t = t' := Option.some.inj (hp.symm.trans hp')
      have hi := hdirection.trans hwrite
      simp [hbyte, hi, haddr, hdata hi, eq_comm]
    · have hi := hdirection.trans (hreads t hp)
      simp [hbyte, hi]

/-! ### Over a run -/

/-- The accesses `taken` are what the queue of `s` has more than that of `u` at its head, and the events `es` are what
`u` has handed over since `s`, at most one for each of them. -/
def TookAndSent (s u : State) (taken : List Txn) (es : List Event) : Prop :=
  s.accesses = taken ++ u.accesses ∧ u.sent = es ++ s.sent ∧ es.length ≤ taken.length

theorem TookAndSent.trans {s m u : State} {ts us : List Txn} {es fs : List Event} (h₁ : TookAndSent s m ts es)
    (h₂ : TookAndSent m u us fs) : TookAndSent s u (ts ++ us) (fs ++ es) := by
  obtain ⟨hq₁, hs₁, hle₁⟩ := h₁
  obtain ⟨hq₂, hs₂, hle₂⟩ := h₂
  refine ⟨by rw [hq₁, hq₂, List.append_assoc], by rw [hs₂, hs₁, List.append_assoc], ?_⟩
  rw [List.length_append, List.length_append]
  omega

/-- A step takes at most one access. -/
theorem step_tookAndSent {s u : State} (h : step s = .next u) :
    ∃ taken es, TookAndSent s u taken es ∧ taken.length ≤ 1 := by
  rcases step_next_inv h with ⟨_, rfl⟩ | ⟨t, i, hp, hd, he⟩
  · exact ⟨[], [], by simp [TookAndSent], Nat.zero_le 1⟩
  · obtain ⟨es, hsent, hle⟩ := exec_sends_at_most_one he
    exact ⟨[t], es, ⟨(tookAndStored_of_exec hp hd he).1, hsent, hle⟩, le_rfl⟩

/-- By induction on the number of steps: what the first step takes and sends comes before what the others do. -/
theorem run_tookAndSent {k : Nat} {s u : State} (h : Host.Core.run Sys2Proof.core k s = .next u) :
    ∃ taken es, TookAndSent s u taken es ∧ taken.length ≤ k := by
  induction k generalizing s with
  | zero =>
    obtain rfl : s = u := Host.Outcome.next.inj h
    exact ⟨[], [], ⟨rfl, rfl, le_rfl⟩, le_rfl⟩
  | succ k ih =>
    obtain ⟨m, hstep, hrest⟩ := run_succ_inv h
    obtain ⟨ts, es, hfirst, hone⟩ := step_tookAndSent hstep
    obtain ⟨us, fs, hothers, hk⟩ := ih hrest
    exact ⟨ts ++ us, fs ++ es, hfirst.trans hothers, by rw [List.length_append]; omega⟩

/-- Settles O55: a run takes and sends what its steps do. -/
theorem runSendsAtMostOneEventPerAccess : Obligations.RunSendsAtMostOneEventPerAccess := by
  intro k s u h
  obtain ⟨taken, es, ⟨hqueue, hsent, hle⟩, hk⟩ := run_tookAndSent h
  exact ⟨taken, es, hqueue, hsent, hle, hk⟩

end Sys2Proof.Machine
end

section
/-! The invariants of the machine, kept by every step (10_state.md R17, 30_encoding.md R48, 43_screen_page.md R94, R97,
R99, 70_reset_and_hazards.md R140). -/

namespace Sys2Proof

/-- A well-formed instruction is determined by its fields: they determine its word, and the word the instruction. -/
theorem Instr.eq_of_fields {c : Caps} {i j : Instr} (hi : i.wellFormed c = true) (hj : j.wellFormed c = true)
    (hw : i.isWrite = j.isWrite) (ha : i.addr = j.addr) (hd : i.data = j.data) : i = j := by
  obtain ⟨hencw, henca, hencd⟩ := encode_fields i c hi
  have hdecode : decode c (encode i) = some j :=
    decode_of_hasFieldsOf hj ⟨by rw [hencw, hw], by rw [henca, ha], fun _ => by rw [hencd, hd]⟩
  exact Option.some.inj ((decodeOfEncode c i hi).symm.trans hdecode)

end Sys2Proof

namespace Sys2Proof.Machine

/-! ### Waiting -/

/-- The block waits only for a collaborator that the build has, and a waiting pixel can be stepped past. -/
def State.WaitsLegally (s : State) : Prop := s.WaitPhaseLegal ∧ s.PixelCannotWrap

theorem State.waitsLegally_of_idle {s : State} (h : s.fsm.phase = .idle) : s.WaitsLegally := by
  simp [State.WaitsLegally, State.WaitPhaseLegal, State.PixelCannotWrap, h]

/-- An answer ends the wait; without one nothing has changed. -/
theorem State.respond_waitsLegally {s : State} (h : s.WaitsLegally) : s.respond.WaitsLegally := by
  rcases s.respond_cases with ⟨_, hr⟩ | ⟨_, _, hr⟩ | ⟨_, _, hr⟩ | ⟨_, _, hr⟩ | ⟨_, _, _, hr⟩ | ⟨_, _, _, hr⟩
  all_goals rw [hr]
  case inl | inr.inl | inr.inr.inr.inl => exact h
  all_goals exact State.waitsLegally_of_idle rfl

/-- An update that starts in `IDLE` waits, if at all, for the collaborator that its row requires, and for a pixel that
is in bounds. -/
theorem RowUpdate.waitsLegally {requires : Option Strap} {a v : Byte} {row : State → State}
    (h : RowUpdate requires a v row) {s : State} (hidle : s.fsm.phase = .idle)
    (hheld : (requires.map (Strap.holds s.caps)).getD true = true) : (row s).WaitsLegally := by
  cases h with
  | nothing | auto | composeX | composeY | composeSprite => exact State.waitsLegally_of_idle hidle
  | diag | strobe => exact State.waitsLegally_of_idle (by simp [hidle])
  | diagUnlessZero =>
    refine State.waitsLegally_of_idle ?_
    dsimp only
    split <;> simp [hidle]
  | console chan =>
    exact State.respond_waitsLegally (s := s.requestConsole chan v) ⟨⟨fun _ => hheld, nofun⟩, nofun⟩
  | fill =>
    exact State.respond_waitsLegally (s := s.requestRectangle v) ⟨⟨nofun, fun _ => hheld⟩, fun _ => nofun⟩
  | pixel =>
    cases hin : s.inBounds with
    | true =>
      rw [State.drawPixel_of_inBounds hin]
      exact State.respond_waitsLegally ⟨⟨nofun, fun _ => hheld⟩, fun _ _ => State.lt_max_of_inBounds hin⟩
    | false =>
      rw [State.drawPixel_of_not_inBounds hin]
      exact State.waitsLegally_of_idle hidle

theorem exec_waitsLegally {i : Instr} {s u : State} (hwf : i.wellFormed s.caps = true) (hidle : s.fsm.phase = .idle)
    (h : exec i s = .next u) : u.WaitsLegally := by
  rcases exec_cases h with ⟨_, ⟨_, _, _, _, _, _, hfsm, _⟩, _⟩ | ⟨_, row, ⟨_, requires, hrow, hheld⟩, rfl⟩
  · exact State.waitsLegally_of_idle (by rw [hfsm, hidle])
  · exact hrow.waitsLegally (s := s.storeShadow i.addr i.data) hidle (hheld s.caps hwf)

/-- Settles O50: an answer ends a wait, and an access starts in `IDLE` with the straps its row requires. -/
theorem stepKeepsWaitLegal : Obligations.StepKeepsWaitLegal := by
  intro s u hlegal hpixel h
  rcases step_next_inv h with ⟨_, rfl⟩ | ⟨t, i, hp, hd, he⟩
  · exact State.respond_waitsLegally (s := s.takeSample) ⟨hlegal, hpixel⟩
  · obtain ⟨hidle, _⟩ := State.presented_eq_some.mp hp
    exact exec_waitsLegally (s := s.takeSample.accept) (decode_wellFormed hd) hidle he

/-! ### The screen registers that follow their shadow bytes -/

/-- The ports whose bytes the sprite register and the auto fields follow. -/
def followedPorts : List Byte := [0x26, 0x2C, 0x2D]

/-- The sprite register and the auto fields are the same. -/
def State.SameFollowers (s u : State) : Prop :=
  u.scr.sprite = s.scr.sprite ∧ u.scr.autoX = s.scr.autoX ∧ u.scr.autoY = s.scr.autoY ∧
  u.scr.autoSprite = s.scr.autoSprite ∧ u.scr.length = s.scr.length

/-- What follows its shadow bytes still does when neither it nor they changed. -/
theorem State.ScreenFollowsShadow.congr {s u : State} (hs : s.ScreenFollowsShadow) (hcaps : u.caps = s.caps)
    (hbytes : ∀ a ∈ followedPorts, u.readShadow a = s.readShadow a) (h : State.SameFollowers s u) :
    u.ScreenFollowsShadow := by
  intro hscreen
  obtain ⟨hsprite, hx, hy, hautoSprite, hlength⟩ := h
  rw [hsprite, hx, hy, hautoSprite, hlength, hbytes 0x26 (by decide), hbytes 0x2C (by decide), hbytes 0x2D (by decide)]
  exact hs (hcaps ▸ hscreen)

/-- Only the row of the auto byte and those of the sprite halves set what follows a shadow byte (43_screen_page.md R85,
R90, R91). -/
theorem RowUpdate.sameFollowers {requires : Option Strap} {a v : Byte} {row : State → State}
    (h : RowUpdate requires a v row) (ha : a ∉ followedPorts) (s : State) : State.SameFollowers s (row s) := by
  cases h with
  | nothing | composeX | composeY => exact ⟨rfl, rfl, rfl, rfl, rfl⟩
  | diag | strobe => simp [State.SameFollowers]
  | diagUnlessZero =>
    dsimp only
    split <;> simp [State.SameFollowers]
  | console chan => exact State.respond_scr_rest (s.requestConsole chan v)
  | fill => exact State.respond_scr_rest (s.requestRectangle v)
  | pixel =>
    cases hin : s.inBounds with
    | true =>
      rw [State.drawPixel_of_inBounds hin]
      exact State.respond_scr_rest _
    | false =>
      rw [State.drawPixel_of_not_inBounds hin]
      exact ⟨rfl, rfl, rfl, rfl, rfl⟩
  | auto => exact absurd (by decide) ha
  | composeSprite _ _ hport => exact absurd (by rcases hport with rfl | rfl <;> decide) ha

/-- A write of the auto byte sets the auto fields from the byte it stores (43_screen_page.md R85). -/
theorem State.followsShadow_writeAuto {s : State} (hs : s.ScreenFollowsShadow) (v : Byte) :
    (s.performWrite 0x26 v (State.setAuto v)).ScreenFollowsShadow := by
  intro hscreen
  obtain ⟨hsprite, _⟩ := hs hscreen
  have hread := s.performWrite_readShadow 0x26 v (State.setAuto v) rfl
  rw [hread, hread, hread]
  exact ⟨hsprite, rfl, rfl, rfl, rfl⟩

/-- A half-write of the sprite address composes it from the two bytes that the file holds after the store
(43_screen_page.md R90, R91). -/
theorem State.followsShadow_writeSprite {s : State} (hs : s.ScreenFollowsShadow) {a : Byte} (ha : a ≠ 0x26) (v : Byte) :
    (s.performWrite a v State.composeSprite).ScreenFollowsShadow := by
  intro hscreen
  obtain ⟨_, hauto⟩ := hs hscreen
  have hread := s.performWrite_readShadow a v State.composeSprite rfl 0x26
  rw [if_neg ha.symm] at hread
  rw [hread]
  exact ⟨rfl, hauto⟩

/-- With a screen, the followed ports have rows of their own, and every other write leaves both sides alone. -/
theorem exec_keeps_followsShadow {i : Instr} {s u : State} (hwf : i.wellFormed s.caps = true)
    (hs : s.ScreenFollowsShadow) (h : exec i s = .next u) : u.ScreenFollowsShadow := by
  intro hscreen
  have hcaps := exec_caps h
  have hheld : s.caps.hasScreen = true := hcaps ▸ hscreen
  revert hscreen
  rcases exec_cases h with ⟨_, ⟨_, _, _, _, hbytes, hscr, _⟩, _⟩ | ⟨hi, row, ⟨_, _, hrow, _⟩, hu⟩
  · exact hs.congr hcaps (fun a _ => hbytes a) (by rw [State.SameFollowers, hscr]; exact ⟨rfl, rfl, rfl, rfl, rfl⟩)
  · by_cases hport : i.addr ∈ followedPorts
    · have hrowOf : ∀ j : Instr, j.wellFormed s.caps = true → j.isWrite = true → i.addr = j.addr →
          i.data = j.data → exec j s = .next u := fun j hj hjw ha hd =>
        Instr.eq_of_fields hwf hj (hi.trans hjw.symm) ha hd ▸ h
      simp only [followedPorts, List.mem_cons, List.not_mem_nil, or_false] at hport
      rcases hport with ha | ha | ha
      · obtain rfl := Host.Outcome.next.inj (hrowOf (.wrScrAuto i.data) hheld rfl ha rfl)
        exact State.followsShadow_writeAuto hs i.data
      · obtain rfl := Host.Outcome.next.inj (hrowOf (.wrScrSprHi i.data) hheld rfl ha rfl)
        exact State.followsShadow_writeSprite hs (by decide) i.data
      · obtain rfl := Host.Outcome.next.inj (hrowOf (.wrScrSprLo i.data) hheld rfl ha rfl)
        exact State.followsShadow_writeSprite hs (by decide) i.data
    · obtain rfl := hu
      have hshadow := (hrow.frame (s.storeShadow i.addr i.data)).1
      refine hs.congr hcaps (fun a ha => ?_) (hrow.sameFollowers hport (s.storeShadow i.addr i.data))
      rw [State.performWrite_readShadow s _ _ row hshadow, if_neg (fun heq : a = i.addr => hport (heq ▸ ha))]

/-- Settles O49: an answer touches the cursor alone, and a well-formed access sets what follows a byte together with
the byte. -/
theorem stepKeepsScreenFollowingShadow : Obligations.StepKeepsScreenFollowingShadow := by
  intro s u hs h
  rcases step_next_inv h with ⟨_, rfl⟩ | ⟨t, i, _, hd, he⟩
  · exact State.ScreenFollowsShadow.congr hs (by simp) (fun a _ => by simp) s.takeSample.respond_scr_rest
  · exact exec_keeps_followsShadow (s := s.takeSample.accept) (decode_wellFormed hd) hs he

/-! ### Every invariant together -/

/-- No step writes the straps (00_scope.md R7). -/
theorem step_caps {s u : State} (h : step s = .next u) : u.caps = s.caps := by
  rcases step_next_inv h with ⟨_, rfl⟩ | ⟨_, i, _, _, he⟩
  · exact State.respond_caps _
  · exact exec_caps (s := s.takeSample.accept) he

/-- Settles O52, from the step lemma of each invariant. -/
theorem stepKeepsInvariants : Obligations.StepKeepsInvariants := by
  intro s u hs h
  obtain ⟨hshadow, hfollows, habsent, hlegal, hpixel⟩ := hs
  have hcaps := step_caps h
  obtain ⟨hlegal', hpixel'⟩ := stepKeepsWaitLegal s u hlegal hpixel h
  refine ⟨⟨stepKeepsShadowCanonical s u hshadow h, stepKeepsScreenFollowingShadow s u hfollows h, fun hno => ?_,
    hlegal', hpixel'⟩, hcaps⟩
  have hno' : s.caps.hasScreen = false := hcaps ▸ hno
  obtain ⟨_, hscr, _⟩ := step_sparesScreen hno' hlegal h
  exact hscr.trans (habsent hno')

end Sys2Proof.Machine
end

section
/-! What must not matter: the halt byte and the bytes behind the stack-pointer ports (60_exceptions.md R137,
70_reset_and_hazards.md R149). -/

namespace Sys2Proof.Machine

/-! ### States that differ in one shadow byte at most -/

/-- Two states that agree in everything but the shadow byte at `a`. -/
def State.SameButByte (a : Byte) (s t : State) : Prop :=
  ∃ m, t = { s with shadow := m } ∧ ∀ b, b ≠ a → t.readShadow b = s.readShadow b

theorem State.SameButByte.agreeButByte {a : Byte} {s t : State} (h : State.SameButByte a s t) :
    State.AgreeButByte a s t ∧ t.accRdata = s.accRdata := by
  obtain ⟨m, rfl, hbytes⟩ := h
  exact ⟨⟨hbytes, rfl, rfl, rfl, ⟨rfl, rfl, rfl, rfl, rfl⟩, rfl, rfl, rfl⟩, rfl⟩

theorem State.sameButByte_storeShadow (s : State) (a v : Byte) : State.SameButByte a s (s.storeShadow a v) :=
  ⟨_, rfl, fun b hb => by rw [State.readShadow_storeShadow, if_neg hb]⟩

/-- An update that keeps such an agreement: it does not look at the byte. -/
def IgnoresByte (a : Byte) (f : State → State) : Prop :=
  ∀ s t, State.SameButByte a s t → State.SameButByte a (f s) (f t)

/-- An update of anything but the shadow file ignores the byte when the rest of its outcome does not depend on it. -/
theorem ignoresByte_of_shadow {a : Byte} {f : State → State} (hshadow : ∀ s, (f s).shadow = s.shadow)
    (h : ∀ s m, (∀ b, b ≠ a → State.readShadow { s with shadow := m } b = s.readShadow b) →
      f { s with shadow := m } = { f s with shadow := m }) : IgnoresByte a f := by
  rintro s _ ⟨m, rfl, hbytes⟩
  refine ⟨m, h s m hbytes, fun b hb => ?_⟩
  rw [State.readShadow_congr (hshadow _) b, State.readShadow_congr (hshadow _) b, hbytes b hb]

/-- A store keeps the agreement, at its own port because both files then hold its byte. -/
theorem ignoresByte_storeShadow (a p v : Byte) : IgnoresByte a (fun s => s.storeShadow p v) := by
  rintro s _ ⟨m, rfl, hbytes⟩
  refine ⟨Memory.write m p.toNat v, rfl, fun b hb => ?_⟩
  rw [State.readShadow_storeShadow, State.readShadow_storeShadow, hbytes b hb]

/-! ### The updates of the block -/

theorem State.diag_withShadow (s : State) (m : Memory) (code : DiagCode) (p v : Byte) :
    State.diag { s with shadow := m } code p v = { s.diag code p v with shadow := m } := by
  unfold State.diag
  dsimp only
  split <;> rfl

/-- An answer looks at the sequencer, the sampled inputs and the screen registers (43_screen_page.md R97). -/
theorem State.respond_withShadow (s : State) (m : Memory) :
    State.respond { s with shadow := m } = { s.respond with shadow := m } := by
  unfold State.respond
  dsimp only
  cases s.fsm.phase with
  | idle => rfl
  | waitCon => cases s.pins.conRsp <;> rfl
  | waitFill =>
    cases s.pins.fillRsp with
    | none => rfl
    | some ok =>
      dsimp only
      split <;> rfl

theorem ignoresByte_respond (a : Byte) : IgnoresByte a State.respond :=
  ignoresByte_of_shadow State.respond_shadow fun s m _ => s.respond_withShadow m

/-- Only the compositions look at shadow bytes, and these are on page 0x20 (30_encoding.md R52). -/
theorem RowUpdate.ignoresByte {requires : Option Strap} {p v : Byte} {row : State → State}
    (h : RowUpdate requires p v row) {a : Byte} (ha : pg a = 0x00) : IgnoresByte a row := by
  have hne : ∀ b, pg b = 0x20 → b ≠ a := by
    rintro b hb rfl
    exact absurd (hb.symm.trans ha) (by decide)
  refine ignoresByte_of_shadow (fun s => (h.frame s).1) fun s m hbytes => ?_
  cases h with
  | nothing | auto => rfl
  | diag code => exact s.diag_withShadow m code p v
  | diagUnlessZero code =>
    dsimp only
    split
    · rfl
    · exact s.diag_withShadow m code p v
  | strobe sp => cases sp <;> rfl
  | console chan => exact (s.requestConsole chan v).respond_withShadow m
  | fill => exact (s.requestRectangle v).respond_withShadow m
  | pixel =>
    unfold State.drawPixel
    cases hin : s.inBounds with
    | true =>
      have hin' : State.inBounds { s with shadow := m } = true := hin
      rw [if_pos hin', if_pos rfl]
      exact (s.requestFill true s.scr.x s.scr.y 1 1 (drawColour v) (drawFg v)).respond_withShadow m
    | false =>
      have hin' : State.inBounds { s with shadow := m } = false := hin
      rw [if_neg (by simp [hin']), if_neg Bool.false_ne_true]
  | composeX =>
    unfold State.composeX
    rw [hbytes 0x28 (hne _ rfl), hbytes 0x29 (hne _ rfl)]
  | composeY =>
    unfold State.composeY
    rw [hbytes 0x2A (hne _ rfl), hbytes 0x2B (hne _ rfl)]
  | composeSprite =>
    unfold State.composeSprite
    rw [hbytes 0x2C (hne _ rfl), hbytes 0x2D (hne _ rfl)]

theorem RowUpdate.ignoresByte_performWrite {requires : Option Strap} {p v : Byte} {row : State → State}
    (h : RowUpdate requires p v row) {a : Byte} (ha : pg a = 0x00) (q w : Byte) :
    IgnoresByte a (fun s => s.performWrite q w row) := by
  intro s t hst
  obtain ⟨m, hrow, hbytes⟩ := h.ignoresByte ha _ _ (ignoresByte_storeShadow a q w s t hst)
  exact ⟨m, congrArg State.finishWrite hrow, hbytes⟩

/-- Two reads look at shadow bytes, the default read at its own (40_dispatch.md R62) and the daylight-savings read at
that of 0xCA (45_clock_page.md R117). -/
theorem exec_read_ignoresByte {i : Instr} (hi : i.isWrite = false) {a : Byte} (ha : pg a = 0x00)
    (hne : i ≠ .rdShadow a) : ∃ f, (∀ s, exec i s = .next (f s)) ∧ IgnoresByte a f := by
  cases i with
  | wrSysExpansion | wrSysWst | wrSysRst | wrSysDebug | wrConOut | wrConErr | wrScrAuto | wrScrXHi | wrScrXLo
  | wrScrYHi | wrScrYLo | wrScrSprHi | wrScrSprLo | wrScrDrawPixel | wrScrDrawFill | wrAudioP3 | wrAudioP4
  | wrAudioP5 | wrAudioP6 | wrFilePa | wrFilePb | wrShadow => cases hi
  | rdShadow b =>
    have hb : b ≠ a := fun h => hne (h ▸ rfl)
    refine ⟨_, exec_rdShadow b, ignoresByte_of_shadow (fun _ => rfl) fun s m hbytes => ?_⟩
    rw [hbytes b hb]
    rfl
  | rdRtcDst =>
    have hca : 0xCA ≠ a := by
      rintro rfl
      exact absurd ha (by decide)
    refine ⟨fun s => (s.diag .rtcDstRead 0xCA (s.readShadow 0xCA)).completeRead (s.readShadow 0xCA), fun _ => rfl,
      ignoresByte_of_shadow (fun s => s.diag_shadow _ _ _) fun s m hbytes => ?_⟩
    rw [hbytes 0xCA hca, State.diag_withShadow]
    rfl
  | _ => exact ⟨_, fun _ => rfl, ignoresByte_of_shadow (fun _ => rfl) fun _ _ _ => rfl⟩

/-- Only the default read of a port of page 0x00 looks at its shadow byte. -/
theorem exec_ignoresByte {i : Instr} {a : Byte} (ha : pg a = 0x00) (hne : i ≠ .rdShadow a) :
    ∃ f, (∀ s, exec i s = .next (f s)) ∧ IgnoresByte a f := by
  cases hi : i.isWrite with
  | false => exact exec_read_ignoresByte hi ha hne
  | true =>
    obtain ⟨row, hexec, _, hrow, _⟩ := exists_writesWith hi
    exact ⟨_, hexec, hrow.ignoresByte_performWrite ha i.addr i.data⟩

/-! ### One step -/

/-- The access that the state presents is not the default read of `a`. -/
def State.NotDefaultReading (s : State) (a : Byte) : Prop :=
  ∀ t, s.presented = some t → decode s.caps t ≠ some (.rdShadow a)

theorem exec_sameButByte (i : Instr) {a : Byte} (ha : pg a = 0x00) {s t : State} (hst : State.SameButByte a s t) :
    ∃ u w, exec i s = .next u ∧ exec i t = .next w ∧ State.AgreeButByte a u w ∧
      (i ≠ .rdShadow a → w.accRdata = u.accRdata) := by
  by_cases hi : i = .rdShadow a
  · subst hi
    obtain ⟨⟨hbytes, hscr, hfsm, hcore, henv, _, hevent, hsent⟩, _⟩ := hst.agreeButByte
    exact ⟨_, _, exec_rdShadow a s, exec_rdShadow a t, ⟨hbytes, hscr, hfsm, hcore, henv, rfl, hevent, hsent⟩,
      fun h => absurd rfl h⟩
  · obtain ⟨f, hexec, hf⟩ := exec_ignoresByte ha hi
    obtain ⟨hagree, hdata⟩ := (hf s t hst).agreeButByte
    exact ⟨_, _, hexec s, hexec t, hagree, fun _ => hdata⟩

/-- A byte of page 0x00 reaches nothing but itself and the byte that its own default read returns: the state with
another byte there presents and decodes the same access. -/
theorem step_storeShadow (s : State) {a : Byte} (ha : pg a = 0x00) (v : Byte) :
    ∃ u w, step s = .next u ∧ step (s.storeShadow a v) = .next w ∧ State.AgreeButByte a u w ∧
      (s.NotDefaultReading a → w.accRdata = u.accRdata) := by
  have hpresented : (s.storeShadow a v).presented = s.presented := rfl
  cases hp : s.presented with
  | none =>
    obtain ⟨hagree, hdata⟩ := (ignoresByte_respond a _ _ (s.takeSample.sameButByte_storeShadow a v)).agreeButByte
    exact ⟨_, _, step_of_presented_none hp, step_of_presented_none (hpresented.trans hp), hagree, fun _ => hdata⟩
  | some t =>
    obtain ⟨i, hd⟩ := exists_decode_eq_some s.caps t
    obtain ⟨u, w, hu, hw, hagree, hdata⟩ :=
      exec_sameButByte i ha (s.takeSample.accept.sameButByte_storeShadow a v)
    exact ⟨u, w, (step_of_presented hp hd).trans hu, (step_of_presented (hpresented.trans hp) hd).trans hw, hagree,
      fun hnot => hdata fun hi => hnot t hp (hi ▸ hd)⟩

/-- Settles O56: a read of another port, or a write, is not the default read of 0x0F. -/
theorem haltGatesNothing : Obligations.HaltGatesNothing := by
  intro s v
  obtain ⟨u, w, hu, hw, hagree, hdata⟩ := step_storeShadow s (a := 0x0F) (by decide) v
  refine ⟨u, w, hu, hw, hagree, fun hnot => hdata fun t hp hd => ?_⟩
  obtain ⟨hread, haddr, _⟩ := decode_hasFieldsOf hd
  rcases hnot t hp with hwrite | hother
  · exact Bool.false_ne_true (hread.trans hwrite)
  · exact hother haddr.symm

/-- Settles O57: the reads of the stack-pointer ports have rows of their own, in every build, so no word decodes to
their default read. -/
theorem stackPointerShadowUnobservable : Obligations.StackPointerShadowUnobservable := by
  intro s v a ha
  have hpage : pg a = 0x00 := by rcases ha with rfl | rfl <;> decide
  have hspecial : specialRead s.caps a = true := by rcases ha with rfl | rfl <;> rfl
  obtain ⟨u, w, hu, hw, hagree, hdata⟩ := step_storeShadow s hpage v
  refine ⟨u, w, hu, hw, hagree, hdata fun t _ hd => ?_⟩
  have hwf := decode_wellFormed hd
  simp [Instr.wellFormed, hspecial] at hwf

end Sys2Proof.Machine
end

section
/-! The sequencer: an idle step, a wait without an answer, and a wait that an answer ends (40_dispatch.md R58,
43_screen_page.md R97, 60_exceptions.md R138). -/

namespace Sys2Proof.Machine

/-! ### A step in `IDLE` -/

/-- Settles O7: the step takes its sample, then accepts and performs the presented access. -/
theorem stepRunsDecodedAccess : Obligations.StepRunsDecodedAccess := by
  intro s t i hidle hhead hd
  exact ⟨step_of_presented (State.presented_eq_some.mpr ⟨hidle, hhead⟩) hd,
    rfl, rfl, rfl, rfl, rfl, rfl, rfl, rfl, rfl, rfl, rfl, rfl, rfl, rfl⟩

theorem State.respond_of_idle {s : State} (h : s.fsm.phase = .idle) : s.respond = s := by
  simp [State.respond, h]

/-- Settles O10: the step samples the inputs, and in `IDLE` an answer is an answer to no request. -/
theorem idleWithoutAccessDoesNothing : Obligations.IdleWithoutAccessDoesNothing := by
  intro s hidle hqueue
  have hp : s.presented = none := by simp [State.presented, hidle, hqueue]
  refine ⟨_, step_of_presented_none hp, ?_⟩
  rw [State.respond_of_idle (s := s.takeSample) hidle]
  exact ⟨rfl, rfl, rfl, rfl, rfl, rfl, rfl, rfl, rfl, hqueue⟩

/-! ### A step in a wait phase -/

/-- No access is accepted while the block waits (40_dispatch.md R58). -/
theorem State.presented_eq_none_of_wait {s : State} (h : s.fsm.phase ≠ .idle) : s.presented = none := by
  unfold State.presented
  split
  next hidle => exact absurd hidle h
  all_goals rfl

/-- A console answer of either value completes the access (43_screen_page.md R97). -/
theorem State.respond_of_console_answer {s : State} (hp : s.fsm.phase = .waitCon) (hr : s.pins.conRsp ≠ none) :
    s.respond = s.completeWait := by
  obtain ⟨ok, hok⟩ := Option.ne_none_iff_exists'.mp hr
  simp [State.respond, hp, hok]

/-- A surface answer completes the access, after the auto-increment when it is Ok to a pixel draw (43_screen_page.md
R97). -/
theorem State.respond_of_surface_answer {s : State} {ok : Bool} (hp : s.fsm.phase = .waitFill)
    (hr : s.pins.fillRsp = some ok) :
    s.respond = if ok && s.fsm.pixel then s.autoIncrement.completeWait else s.completeWait := by
  simp [State.respond, hp, hr]

/-- The collaborator that the block waits for gives no answer in a sample. -/
def State.Unanswered (s : State) (p : Pins) : Prop :=
  (s.fsm.phase = .waitCon ∧ p.conRsp = none) ∨ (s.fsm.phase = .waitFill ∧ p.fillRsp = none)

theorem State.respond_of_unanswered {s : State} (h : s.Unanswered s.pins) : s.respond = s := by
  rcases h with ⟨hp, hr⟩ | ⟨hp, hr⟩ <;> simp [State.respond, hp, hr]

/-- The screen registers after a surface answer: each enabled cursor register has stepped after Ok to a pixel draw
(43_screen_page.md R94, R97). -/
theorem State.respond_scr_of_surface_answer {s : State} {ok : Bool} (hp : s.fsm.phase = .waitFill)
    (hr : s.pins.fillRsp = some ok) :
    s.respond.scr = { s.scr with
      x := if ok = true ∧ s.fsm.pixel = true ∧ s.scr.autoX = true then s.scr.x + 1 else s.scr.x
      y := if ok = true ∧ s.fsm.pixel = true ∧ s.scr.autoY = true then s.scr.y + 1 else s.scr.y } := by
  rw [State.respond_of_surface_answer hp hr]
  cases ok <;> cases hpixel : s.fsm.pixel <;> simp

theorem State.respond_completes_of_surface_answer {s : State} {ok : Bool} (hp : s.fsm.phase = .waitFill)
    (hr : s.pins.fillRsp = some ok) :
    s.respond.fsm = ⟨.idle, s.fsm.pixel⟩ ∧ s.respond.accDone = true ∧ s.respond.accRdata = none := by
  rw [State.respond_of_surface_answer hp hr]
  split <;> exact ⟨rfl, rfl, rfl⟩

/-- Settles O8: the step samples the inputs and takes the answer they bring. -/
theorem answerCompletesTheWait : Obligations.AnswerCompletesTheWait := by
  intro s
  constructor
  · intro hp hr
    refine ⟨_, step_of_presented_none (State.presented_eq_none_of_wait (by simp [hp])), ?_⟩
    rw [State.respond_of_console_answer (s := s.takeSample) hp hr]
    exact ⟨rfl, rfl, rfl, rfl, rfl, rfl, rfl, rfl, rfl, rfl⟩
  · intro ok hp hr
    obtain ⟨hfsm, hdone, hdata⟩ := State.respond_completes_of_surface_answer (s := s.takeSample) hp hr
    refine ⟨_, step_of_presented_none (State.presented_eq_none_of_wait (by simp [hp])), hfsm, hdone, hdata,
      State.respond_scr_of_surface_answer (s := s.takeSample) hp hr, ?_⟩
    simp

/-! ### A hang -/

/-- Nothing has completed and nothing was handed over in the step that led here. -/
def State.Silent (s : State) : Prop := s.accDone = false ∧ s.accRdata = none ∧ s.event = none

/-- The block is as it was, but for what the moves of the samples `xs` made of the core's pointers. -/
def State.StillAfter (s u : State) (xs : List Sample) : Prop :=
  u.fsm = s.fsm ∧ u.accesses = s.accesses ∧ u.shadow = s.shadow ∧ u.scr = s.scr ∧ u.sent = s.sent ∧ u.caps = s.caps ∧
  u.core = coreMoves s.core xs

/-- Samples that move neither pointer leave both as they are (10_state.md R20). -/
theorem coreMoves_of_no_move {xs : List Sample} (h : ∀ x ∈ xs, x.coreWst = none ∧ x.coreRst = none) (p : CorePointers) :
    coreMoves p xs = p := by
  induction xs with
  | nil => rfl
  | cons x xs ih =>
    obtain ⟨hwst, hrst⟩ := h x (by simp)
    have hmove : coreMoves p (x :: xs) = coreMoves p xs := by simp [coreMoves, hwst, hrst]
    rw [hmove, ih fun y hy => h y (by simp [hy])]

/-- A step without an answer only samples the inputs. -/
theorem step_of_unanswered {s : State} (h : s.Unanswered s.nextSample.pins) : step s = .next s.takeSample := by
  have hphase : s.fsm.phase ≠ .idle := by
    rcases h with ⟨hp, _⟩ | ⟨hp, _⟩ <;> simp [hp]
  rw [step_of_presented_none (State.presented_eq_none_of_wait hphase)]
  exact congrArg _ (State.respond_of_unanswered (s := s.takeSample) h)

/-- By induction on the number of steps: each of them takes the sample at the head of the script. -/
theorem run_of_unanswered {k : Nat} {s : State} (hk : k ≤ s.script.length)
    (h : ∀ x ∈ s.script.take k, s.Unanswered x.pins) :
    ∃ u, Host.Core.run Sys2Proof.core k s = .next u ∧ State.StillAfter s u (s.script.take k) ∧
      (k ≠ 0 ∨ s.Silent → u.Silent) := by
  induction k generalizing s with
  | zero => exact ⟨s, rfl, ⟨rfl, rfl, rfl, rfl, rfl, rfl, rfl⟩, fun hs => hs.resolve_left (absurd rfl)⟩
  | succ k ih =>
    obtain ⟨x, xs, hscript⟩ : ∃ x xs, s.script = x :: xs := List.exists_cons_of_length_pos (by omega)
    rw [hscript, List.take_succ_cons] at h ⊢
    have hsample : s.nextSample = x := by simp [State.nextSample, hscript]
    have htail : s.takeSample.script = xs := by simp [hscript]
    have hstep := step_of_unanswered (s := s) (hsample ▸ h x (by simp))
    obtain ⟨u, hrun, ⟨hfsm, hqueue, hshadow, hscr, hsent, hcaps, hcore⟩, hsilent⟩ := ih (s := s.takeSample)
      (by rw [htail]; rw [hscript, List.length_cons] at hk; omega)
      (by rw [htail]; exact fun y hy => h y (by simp [hy]))
    refine ⟨u, (run_succ_of_step hstep).trans hrun, ⟨hfsm, hqueue, hshadow, hscr, hsent, hcaps, ?_⟩,
      fun _ => hsilent (.inr ⟨rfl, rfl, rfl⟩)⟩
    rw [hcore, htail, State.takeSample_core, hsample]
    rfl

/-- Settles O9: no sample that the run takes brings the answer that its phase waits for. -/
theorem noAnswerIsAHang : Obligations.NoAnswerIsAHang := by
  intro k s hk hwait
  have hunanswered : ∀ x ∈ s.script.take k, s.Unanswered x.pins := by
    rcases hwait with ⟨hp, hr⟩ | ⟨hp, hr⟩
    · exact fun x hx => .inl ⟨hp, hr x hx⟩
    · exact fun x hx => .inr ⟨hp, hr x hx⟩
  obtain ⟨u, hrun, ⟨hfsm, hqueue, hshadow, hscr, hsent, hcaps, hcore⟩, hsilent⟩ := run_of_unanswered hk hunanswered
  exact ⟨u, hrun, hfsm, hqueue, hshadow, hscr, hsent, hcaps, hcore,
    fun hstill => hcore.trans (coreMoves_of_no_move hstill _), fun hne => hsilent (.inl hne)⟩

end Sys2Proof.Machine
end

section
/-! The console writes and the draws: a request, and its answer in the same sample, later or not at all
(42_console_page.md R72, R73, 43_screen_page.md R94 to R97). -/

namespace Sys2Proof.Machine

/-! ### Requests -/

/-- What every write that asks a collaborator does, answered or not: it stores its byte and hands over one event. -/
def State.RequestingWrite (s t : State) (a v : Byte) (e : Event) : Prop :=
  State.Sends s t e ∧ State.StoresByte s t a v ∧ t.core = s.core ∧ State.SameEnvironment s t

/-- A row that hands over one event and then takes the answer, if there is one. -/
theorem State.requestingWrite_performWrite {s r : State} {a v : Byte} {row : State → State} {e : Event}
    (hrow : row (s.storeShadow a v) = r.respond) (hsends : State.Sends s r e)
    (hshadow : r.shadow = (s.storeShadow a v).shadow) (hcore : r.core = s.core) (henv : State.SameEnvironment s r) :
    State.RequestingWrite s (s.performWrite a v row) a v e := by
  have hstores := s.performWrite_readShadow a v row (by rw [hrow, State.respond_shadow, hshadow])
  unfold State.performWrite at hstores ⊢
  rw [hrow] at hstores ⊢
  obtain ⟨hevent, hsent⟩ := hsends
  refine ⟨⟨?_, ?_⟩, hstores, ?_, ?_⟩
  · rw [State.finishWrite_event, State.respond_event, hevent]
  · rw [State.finishWrite_sent, State.respond_sent, hsent]
  · rw [State.finishWrite_core, State.respond_core, hcore]
  · simpa [State.SameEnvironment] using henv

/-! ### The console -/

/-- The write of a console port (42_console_page.md R72, R73). -/
def State.consoleWrite (s : State) (chan : Chan) (a v : Byte) : State :=
  s.performWrite a v (fun t => (t.requestConsole chan v).respond)

section ConsoleWrite

variable (s : State) (chan : Chan) (a v : Byte)

theorem State.requestingWrite_consoleWrite :
    State.RequestingWrite s (s.consoleWrite chan a v) a v (.consoleWrite chan v) :=
  State.requestingWrite_performWrite (r := (s.storeShadow a v).requestConsole chan v) rfl ⟨rfl, rfl⟩ rfl rfl
    ⟨rfl, rfl, rfl, rfl, rfl⟩

/-- The output signals of a console request (10_state.md R27). -/
theorem State.conPort_of_event {t : State} {chan : Chan} {v : Byte} (h : t.event = some (.consoleWrite chan v)) :
    t.conReq = true ∧ t.conPort = some (chan.signal, v) := by
  simp [State.conReq, State.conPort, h]

theorem State.consoleWrite_of_answer {ok : Bool} (h : s.pins.conRsp = some ok) :
    s.consoleWrite chan a v = ((s.storeShadow a v).requestConsole chan v).completeWait.finishWrite := by
  have hr : ((s.storeShadow a v).requestConsole chan v).pins.conRsp ≠ none := by simp [h]
  exact congrArg State.finishWrite (State.respond_of_console_answer rfl hr)

theorem State.consoleWrite_of_no_answer (h : s.pins.conRsp = none) :
    s.consoleWrite chan a v = ((s.storeShadow a v).requestConsole chan v).finishWrite := by
  have hr : ((s.storeShadow a v).requestConsole chan v).Unanswered s.pins := .inl ⟨rfl, h⟩
  exact congrArg State.finishWrite (State.respond_of_unanswered hr)

/-- An answered console write, by its channel. -/
theorem State.consoleWrite_answered {ok : Bool} (h : s.pins.conRsp = some ok) :
    State.Sends s (s.consoleWrite chan a v) (.consoleWrite chan v) ∧ (s.consoleWrite chan a v).conReq = true ∧
      (s.consoleWrite chan a v).conPort = some (chan.signal, v) ∧ State.StoresByte s (s.consoleWrite chan a v) a v ∧
      State.WriteCompletes (s.consoleWrite chan a v) ∧ (s.consoleWrite chan a v).fsm = ⟨.idle, s.fsm.pixel⟩ ∧
      (s.consoleWrite chan a v).scr = s.scr ∧ (s.consoleWrite chan a v).core = s.core ∧
      State.SameEnvironment s (s.consoleWrite chan a v) := by
  obtain ⟨hsends, hstores, hcore, henv⟩ := s.requestingWrite_consoleWrite chan a v
  obtain ⟨hreq, hport⟩ := State.conPort_of_event hsends.1
  rw [s.consoleWrite_of_answer chan a v h] at *
  exact ⟨hsends, hreq, hport, hstores, ⟨rfl, rfl, rfl⟩, rfl, rfl, hcore, henv⟩

/-- A console write without an answer, by its channel. -/
theorem State.consoleWrite_waits (h : s.pins.conRsp = none) :
    State.Sends s (s.consoleWrite chan a v) (.consoleWrite chan v) ∧ State.StoresByte s (s.consoleWrite chan a v) a v ∧
      (s.consoleWrite chan a v).fsm = ⟨.waitCon, s.fsm.pixel⟩ ∧ (s.consoleWrite chan a v).accDone = false ∧
      (s.consoleWrite chan a v).scr = s.scr ∧ (s.consoleWrite chan a v).core = s.core ∧
      State.SameEnvironment s (s.consoleWrite chan a v) := by
  obtain ⟨hsends, hstores, hcore, henv⟩ := s.requestingWrite_consoleWrite chan a v
  rw [s.consoleWrite_of_no_answer chan a v h] at *
  exact ⟨hsends, hstores, rfl, rfl, rfl, hcore, henv⟩

end ConsoleWrite

/-- Settles O26: rows 29 and 30, each an answered write of its own channel. -/
theorem consoleWritesAnswered : Obligations.ConsoleWritesAnswered :=
  ⟨rowTakes_of_index 28 rfl (fun _ h => h) (by decide), rowTakes_of_index 29 rfl (fun _ h => h) (by decide),
    fun s v _ h => ⟨⟨_, rfl, s.consoleWrite_answered .out 0x18 v h⟩, ⟨_, rfl, s.consoleWrite_answered .err 0x19 v h⟩⟩⟩

/-- Settles O27: both rows without an answer. -/
theorem consoleWritesWait : Obligations.ConsoleWritesWait :=
  fun s v h => ⟨⟨_, rfl, s.consoleWrite_waits .out 0x18 v h⟩, ⟨_, rfl, s.consoleWrite_waits .err 0x19 v h⟩⟩

/-! ### The draws -/

/-- The row of a draw asks the surface for a rectangle and takes the answer, if there is one. -/
def State.AsksFill (s : State) (v : Byte) (row : State → State) (pixel : Bool) (x y w h : Half) : Prop :=
  row (s.storeShadow 0x2E v) =
    ((s.storeShadow 0x2E v).requestFill pixel x y w h (drawColour v) (drawFg v)).respond

section Draw

variable {s : State} {v : Byte} {row : State → State} {pixel : Bool} {x y w h : Half}

theorem State.requestingWrite_draw (hask : State.AsksFill s v row pixel x y w h) :
    State.RequestingWrite s (s.performWrite 0x2E v row) 0x2E v (.surfaceFill x y w h (drawColour v) (drawFg v)) :=
  State.requestingWrite_performWrite hask ⟨rfl, rfl⟩ rfl rfl ⟨rfl, rfl, rfl, rfl, rfl⟩

/-- The output signals of a fill request (10_state.md R26). -/
theorem State.fillPort_of_event {t : State} {colour : BitVec 2} {fg : Bool}
    (hevent : t.event = some (.surfaceFill x y w h colour fg)) :
    t.fillReq = true ∧ t.fillPort = some ⟨x, y, w, h, colour, fg⟩ := by
  simp [State.fillReq, State.fillPort, hevent]

/-- An answered draw completes, and after Ok to a pixel draw each enabled cursor register has stepped. -/
theorem State.draw_answered (hask : State.AsksFill s v row pixel x y w h) {ok : Bool} (hr : s.pins.fillRsp = some ok) :
    (s.performWrite 0x2E v row).scr = { s.scr with
      x := if ok = true ∧ pixel = true ∧ s.scr.autoX = true then s.scr.x + 1 else s.scr.x
      y := if ok = true ∧ pixel = true ∧ s.scr.autoY = true then s.scr.y + 1 else s.scr.y } ∧
    State.WriteCompletes (s.performWrite 0x2E v row) ∧ (s.performWrite 0x2E v row).fsm = ⟨.idle, pixel⟩ := by
  have hresponds := State.respond_completes_of_surface_answer
    (s := (s.storeShadow 0x2E v).requestFill pixel x y w h (drawColour v) (drawFg v)) rfl hr
  have hscr := State.respond_scr_of_surface_answer
    (s := (s.storeShadow 0x2E v).requestFill pixel x y w h (drawColour v) (drawFg v)) rfl hr
  rw [← hask] at hresponds hscr
  obtain ⟨hfsm, _⟩ := hresponds
  exact ⟨hscr, State.writeCompletes_performWrite (by rw [hfsm]), hfsm⟩

/-- A draw without an answer leaves its request outstanding and the cursor where it was. -/
theorem State.draw_waits (hask : State.AsksFill s v row pixel x y w h) (hr : s.pins.fillRsp = none) :
    (s.performWrite 0x2E v row).scr = s.scr ∧ (s.performWrite 0x2E v row).fsm = ⟨.waitFill, pixel⟩ ∧
    (s.performWrite 0x2E v row).accDone = false := by
  have hrow := hask.trans (State.respond_of_unanswered (.inr ⟨rfl, hr⟩))
  unfold State.performWrite
  rw [hrow]
  exact ⟨rfl, rfl, rfl⟩

end Draw

/-- A pixel draw in bounds asks for the pixel at the cursor (43_screen_page.md R94). -/
theorem exec_drawPixel_asks {s : State} (hx : s.scr.x.toNat < s.pins.surfW.toNat)
    (hy : s.scr.y.toNat < s.pins.surfH.toNat) (v : Byte) :
    ∃ row, exec (.wrScrDrawPixel v) s = .next (s.performWrite 0x2E v row) ∧
      State.AsksFill s v row true s.scr.x s.scr.y 1 1 :=
  ⟨_, exec_drawPixel_of_inBounds (s.inBounds_iff.mpr ⟨hx, hy⟩) v, rfl⟩

/-- A fill draw asks for the rectangle anchored at the cursor (43_screen_page.md R95). -/
theorem exec_drawFill_asks (s : State) (v : Byte) :
    ∃ row, exec (.wrScrDrawFill v) s = .next (s.performWrite 0x2E v row) ∧
      State.AsksFill s v row false
        (if v.getLsbD 4 then 0 else s.scr.x) (if v.getLsbD 5 then 0 else s.scr.y)
        (if v.getLsbD 4 then s.scr.x else s.pins.surfW - s.scr.x)
        (if v.getLsbD 5 then s.scr.y else s.pins.surfH - s.scr.y) := by
  refine ⟨_, rfl, ?_⟩
  unfold State.AsksFill drawFlipX drawFlipY fillSpan
  cases v.getLsbD 4 <;> cases v.getLsbD 5 <;> rfl

/-- Settles O32: row 38, whose draw in bounds asks for the pixel at the cursor. -/
theorem pixelDrawAnswered : Obligations.PixelDrawAnswered := by
  refine ⟨rowTakes_of_index 37 rfl (fun _ h => h) (by decide), fun s v ok _ hr hx hy => ?_⟩
  obtain ⟨row, hexec, hask⟩ := exec_drawPixel_asks hx hy v
  obtain ⟨hsends, hstores, hcore, henv⟩ := State.requestingWrite_draw hask
  obtain ⟨hreq, hport⟩ := State.fillPort_of_event hsends.1
  obtain ⟨hscr, hcompletes, hfsm⟩ := State.draw_answered hask hr
  simp only [true_and] at hscr
  exact ⟨_, hexec, hsends, hreq, hport, hscr, hstores, hcompletes, hfsm, hcore, henv⟩

/-- Settles O33: the same draw without an answer. -/
theorem pixelDrawWaits : Obligations.PixelDrawWaits := by
  intro s v _ hr hx hy
  obtain ⟨row, hexec, hask⟩ := exec_drawPixel_asks hx hy v
  obtain ⟨hsends, hstores, hcore, henv⟩ := State.requestingWrite_draw hask
  obtain ⟨hscr, hfsm, hdone⟩ := State.draw_waits hask hr
  exact ⟨_, hexec, hsends, hscr, hstores, hfsm, hdone, hcore, henv⟩

/-- Settles O35: row 39, whose rectangle is asked for whatever its size; no answer to it moves the cursor. -/
theorem fillDrawAnswered : Obligations.FillDrawAnswered := by
  refine ⟨rowTakes_of_index 38 rfl (fun _ h => h) (by decide), fun s v ok _ hr => ?_⟩
  obtain ⟨row, hexec, hask⟩ := exec_drawFill_asks s v
  obtain ⟨hsends, hstores, hcore, henv⟩ := State.requestingWrite_draw hask
  obtain ⟨hscr, hcompletes, hfsm⟩ := State.draw_answered hask hr
  simp only [Bool.false_eq_true, false_and, and_false, if_false] at hscr
  exact ⟨_, hexec, hsends, hscr, hstores, hcompletes, hfsm, hcore, henv⟩

/-- Settles O36: the same draw without an answer. -/
theorem fillDrawWaits : Obligations.FillDrawWaits := by
  intro s v _ hr
  obtain ⟨row, hexec, hask⟩ := exec_drawFill_asks s v
  obtain ⟨hsends, hstores, hcore, henv⟩ := State.requestingWrite_draw hask
  obtain ⟨hscr, hfsm, hdone⟩ := State.draw_waits hask hr
  exact ⟨_, hexec, hsends, hscr, hstores, hfsm, hdone, hcore, henv⟩

/-- Settles O37: along an axis without the flip the size is the difference, which wraps when the cursor is beyond the
edge. -/
theorem fillRectangleGeometry : Obligations.FillRectangleGeometry := by
  intro c size
  refine ⟨rfl, rfl, fillSpan_inside, fun hbeyond => ?_⟩
  have hc := c.isLt
  have hsize : (fillSpan false c size).2.toNat = 0x10000 - (c.toNat - size.toNat) := by
    simp only [fillSpan, Bool.false_eq_true, if_false, BitVec.toNat_sub]
    omega
  exact ⟨hsize, by omega⟩

/-! ### An answer that comes later -/

/-- While the surface answers late, the request is outstanding; its answer then does what it would have done at once. -/
theorem State.respond_late_fill {r : State} (hp : r.fsm.phase = .waitFill) (ok : Bool) :
    ((r.withFillRsp none).respond.finishWrite.withFillRsp (some ok)).respond =
      (r.withFillRsp (some ok)).respond.finishWrite := by
  have hnone : (r.withFillRsp none).respond = r.withFillRsp none := State.respond_of_unanswered (.inr ⟨hp, rfl⟩)
  have hlate := State.respond_of_surface_answer (s := (r.withFillRsp none).finishWrite.withFillRsp (some ok)) hp rfl
  have hearly := State.respond_of_surface_answer (s := r.withFillRsp (some ok)) hp rfl
  rw [hnone, hlate, hearly, apply_ite State.finishWrite]
  rfl

/-- The same for the console. -/
theorem State.respond_late_console {r : State} (hp : r.fsm.phase = .waitCon) (ok : Bool) :
    ((r.withConRsp none).respond.finishWrite.withConRsp (some ok)).respond =
      (r.withConRsp (some ok)).respond.finishWrite := by
  have hnone : (r.withConRsp none).respond = r.withConRsp none := State.respond_of_unanswered (.inl ⟨hp, rfl⟩)
  have hlate := State.respond_of_console_answer (s := (r.withConRsp none).finishWrite.withConRsp (some ok)) hp nofun
  have hearly := State.respond_of_console_answer (s := r.withConRsp (some ok)) hp nofun
  rw [hnone, hlate, hearly]
  rfl

/-- A pixel draw, its answer late: in bounds the request is the same, and out of bounds there is none to answer. -/
theorem drawPixel_late (s : State) (v : Byte) (ok : Bool) :
    ∃ t u, exec (.wrScrDrawPixel v) (s.withFillRsp none) = .next t ∧
      exec (.wrScrDrawPixel v) (s.withFillRsp (some ok)) = .next u ∧
      (s.fsm.phase = .idle → (t.withFillRsp (some ok)).respond = u) := by
  cases hin : s.inBounds with
  | true =>
    have hin' : ∀ r, (s.withFillRsp r).inBounds = true := fun _ => hin
    exact ⟨_, _, exec_drawPixel_of_inBounds (hin' _) v, exec_drawPixel_of_inBounds (hin' _) v, fun _ =>
      State.respond_late_fill
        (r := (s.storeShadow 0x2E v).requestFill true s.scr.x s.scr.y 1 1 (drawColour v) (drawFg v)) rfl ok⟩
  | false =>
    have hin' : ∀ r, (s.withFillRsp r).inBounds = false := fun _ => hin
    exact ⟨_, _, exec_drawPixel_of_not_inBounds (hin' _) v, exec_drawPixel_of_not_inBounds (hin' _) v, fun hidle =>
      State.respond_of_idle hidle⟩

/-- Settles O40: whatever the access asked, its answer ends in the same state late and early. -/
theorem lateAnswerSameAsEarly : Obligations.LateAnswerSameAsEarly := by
  intro s v ok
  constructor
  · rintro i (rfl | rfl)
    · exact drawPixel_late s v ok
    · exact ⟨_, _, rfl, rfl, fun _ => State.respond_late_fill (r := (s.storeShadow 0x2E v).requestRectangle v) rfl ok⟩
  · rintro i (rfl | rfl)
    · exact ⟨_, _, rfl, rfl, State.respond_late_console (r := (s.storeShadow 0x18 v).requestConsole .out v) rfl ok⟩
    · exact ⟨_, _, rfl, rfl, State.respond_late_console (r := (s.storeShadow 0x19 v).requestConsole .err v) rfl ok⟩

/-! ### A line of pixel draws -/

theorem drawPixels_succ {v : Byte} {n : Nat} {s t : State} (h : exec (.wrScrDrawPixel v) s = .next t) :
    drawPixels v (n + 1) s = drawPixels v n t := by
  simp [drawPixels, h]

/-- The cursor is inside or on the right edge, moves along x alone, and every draw is answered Ok. -/
def State.OnLine (s : State) : Prop :=
  s.fsm.phase = .idle ∧ s.pins.fillRsp = some true ∧ s.scr.autoX = true ∧ s.scr.autoY = false ∧
  s.scr.x.toNat ≤ s.pins.surfW.toNat ∧ s.scr.y.toNat < s.pins.surfH.toNat

/-- What `n` draws of a line make of the cursor, the shadow file and the number of requests. -/
def State.DrewLine (n : Nat) (s t : State) : Prop :=
  t.scr.x.toNat = min (s.scr.x.toNat + n) s.pins.surfW.toNat ∧ t.scr.y = s.scr.y ∧
  (∀ a, a ≠ 0x2E → t.readShadow a = s.readShadow a) ∧
  t.sent.length = s.sent.length + min n (s.pins.surfW.toNat - s.scr.x.toNat)

theorem State.DrewLine.trans {m n : Nat} {s t u : State} (h₁ : State.DrewLine m s t) (h₂ : State.DrewLine n t u)
    (hpins : t.pins = s.pins) : State.DrewLine (m + n) s u := by
  obtain ⟨hx₁, hy₁, hbytes₁, hlength₁⟩ := h₁
  obtain ⟨hx₂, hy₂, hbytes₂, hlength₂⟩ := h₂
  rw [hpins] at hx₂ hlength₂
  exact ⟨by omega, hy₂.trans hy₁, fun a ha => (hbytes₂ a ha).trans (hbytes₁ a ha), by omega⟩

/-- Inside the edge a draw of a line sends one request and steps x. -/
theorem exec_drawPixel_inside {s : State} (h : s.OnLine) (hx : s.scr.x.toNat < s.pins.surfW.toNat) (v : Byte) :
    ∃ t, exec (.wrScrDrawPixel v) s = .next t ∧ t.OnLine ∧ t.pins = s.pins ∧ State.DrewLine 1 s t := by
  obtain ⟨_, hr, hautoX, hautoY, _, hy⟩ := h
  obtain ⟨row, hexec, hask⟩ := exec_drawPixel_asks hx hy v
  obtain ⟨⟨_, hsent⟩, hstores, _, _, hpins, _⟩ := State.requestingWrite_draw hask
  obtain ⟨hscr, ⟨hidle, _⟩, _⟩ := State.draw_answered hask hr
  have hwidth := s.pins.surfW.isLt
  have hstep : (s.scr.x + 1).toNat = s.scr.x.toNat + 1 := BitVec.toNat_add_of_lt (by simp; omega)
  simp only [hautoX, hautoY, Bool.false_eq_true, and_false, and_self, if_true, if_false] at hscr
  refine ⟨_, hexec, ⟨hidle, by rw [hpins, hr], by rw [hscr], by rw [hscr], ?_, ?_⟩, hpins, ?_, by rw [hscr],
    fun a ha => ?_, ?_⟩
  · rw [hscr, hpins, hstep]
    omega
  · rw [hscr, hpins]
    exact hy
  · rw [hscr, hstep]
    omega
  · rw [hstores a, if_neg ha]
  · rw [hsent, List.length_cons]
    omega

/-- At the edge a draw of a line stores its byte and nothing else happens. -/
theorem exec_drawPixel_at_edge {s : State} (h : s.OnLine) (hx : s.pins.surfW.toNat ≤ s.scr.x.toNat) (v : Byte) :
    ∃ t, exec (.wrScrDrawPixel v) s = .next t ∧ t.OnLine ∧ t.pins = s.pins ∧ State.DrewLine 1 s t := by
  have hskip : s.inBounds = false := by
    rw [← Bool.not_eq_true, State.inBounds_iff]
    omega
  obtain ⟨hidle, hline⟩ := h
  obtain ⟨t, hexec, hscr, hstores, ⟨hphase, _⟩, _, _, ⟨_, hpins, _⟩, _, hsent⟩ :=
    quietWrite_drawPixel_of_not_inBounds hidle hskip v
  refine ⟨t, hexec, ⟨hphase, by rw [hpins, hscr]; exact hline⟩, hpins, ?_, by rw [hscr], fun a ha => ?_, ?_⟩
  · obtain ⟨_, _, _, hedge, _⟩ := hline
    rw [hscr]
    omega
  · rw [hstores a, if_neg ha]
  · rw [hsent]
    omega

/-- By induction on the number of draws. -/
theorem drawPixels_onLine (v : Byte) (n : Nat) {s : State} (h : s.OnLine) :
    ∃ t, drawPixels v n s = .next t ∧ t.OnLine ∧ State.DrewLine n s t := by
  induction n generalizing s with
  | zero =>
    obtain ⟨_, _, _, _, hx, _⟩ := id h
    exact ⟨s, rfl, h, by omega, rfl, fun _ _ => rfl, by omega⟩
  | succ n ih =>
    obtain ⟨t, hexec, hline, hpins, hfirst⟩ := (lt_or_ge s.scr.x.toNat s.pins.surfW.toNat).elim
      (fun hx => exec_drawPixel_inside h hx v) (fun hx => exec_drawPixel_at_edge h hx v)
    obtain ⟨u, hrun, hend, hothers⟩ := ih hline
    exact ⟨u, (drawPixels_succ hexec).trans hrun, hend, Nat.add_comm 1 n ▸ hfirst.trans hothers hpins⟩

/-- Settles O38: inside the edge each draw sends one request and steps x, and at the edge it does neither. -/
theorem pixelLineStopsAtTheEdge : Obligations.PixelLineStopsAtTheEdge := by
  intro n v s _ hidle hr hautoX hautoY hx hy
  obtain ⟨t, hrun, ⟨hphase, _⟩, hxt, hyt, hbytes, hlength⟩ :=
    drawPixels_onLine v n (s := s) ⟨hidle, hr, hautoX, hautoY, hx, hy⟩
  exact ⟨t, hrun, hxt, hyt, hphase, hbytes, hlength⟩

end Sys2Proof.Machine
end

section
/-! The outputs that the shadow file alone decides: reset, halt and the palette (10_state.md R18, 46_palette_codec.md,
70_reset_and_hazards.md R139, R140). -/

namespace Sys2Proof.Machine

/-! ### Reset -/

theorem State.resetWith_readShadow (c : Caps) (a : Byte) : (State.resetWith c).readShadow a = 0x00 :=
  Memory.read_nil a.toNat

/-- Settles O12: every shadow byte is unlisted, and the outputs are those of the zero bytes. -/
theorem resetValues : Obligations.ResetValues := by
  intro c
  have hzero := State.resetWith_readShadow c
  refine ⟨hzero, rfl, rfl, rfl, ?_, ?_, ?_, ?_, rfl⟩
  · rw [State.palette0, hzero, hzero]; rfl
  · rw [State.palette1, hzero, hzero]; rfl
  · rw [State.palette2, hzero, hzero]; rfl
  · rw [State.palette3, hzero, hzero]; rfl

/-- Settles O13: the registers are what they are composed to from zero bytes, and the block is in `IDLE`. -/
theorem resetMeetsInvariants : Obligations.ResetMeetsInvariants := by
  intro c
  have hzero := State.resetWith_readShadow c
  have hcompose : ∀ a b : Byte, 0 = cat16 ((State.resetWith c).readShadow a) ((State.resetWith c).readShadow b) := by
    intro a b
    rw [hzero, hzero]
    rfl
  obtain ⟨hlegal, hpixel⟩ := State.waitsLegally_of_idle (s := State.resetWith c) rfl
  refine ⟨⟨State.resetWith_shadow_wf c, fun _ => ⟨hcompose _ _, ?_⟩, fun _ => rfl, hlegal, hpixel⟩,
    hcompose _ _, hcompose _ _⟩
  rw [hzero]
  exact ⟨rfl, rfl, rfl, rfl⟩

/-! ### Halt -/

/-- Settles O44: a write of 0x0F stores the byte that halt looks at. -/
theorem haltFollowsItsByte : Obligations.HaltFollowsItsByte := by
  refine ⟨State.halt_iff, fun s v => ⟨_, rfl, ?_⟩⟩
  rw [State.halt_iff, State.performWrite_readShadow s 0x0F v (fun t => t) rfl, if_pos rfl]

/-! ### The palette -/

/-- An even output is a doubling joined with a halving (46_palette_codec.md R120, R122). -/
theorem toNat_paletteEven (bn bm : Byte) : (paletteEven bn bm).toNat = (bn.toNat * 2) ||| (bm.toNat / 2) := by
  have hn := bn.isLt
  have hm := bm.isLt
  have hdouble : (bn.setWidth 16 <<< 1).toNat = bn.toNat * 2 := by bv_omega
  have hhalf : (bm.setWidth 16 >>> 1).toNat = bm.toNat / 2 := by
    simp only [BitVec.toNat_ushiftRight, BitVec.toNat_setWidth, Nat.shiftRight_eq_div_pow]
    omega
  rw [paletteEven, BitVec.toNat_or, hdouble, hhalf]

/-- An odd output is the low bit, four times, joined with the other byte (46_palette_codec.md R121, R123). -/
theorem toNat_paletteOdd (bn bm : Byte) : (paletteOdd bn bm).toNat = (bn.toNat % 2 * 4) ||| bm.toNat := by
  have hm := bm.isLt
  have hbit : ((bn.setWidth 16 &&& 0x1) <<< 2).toNat = bn.toNat % 2 * 4 := by
    have hmask : (bn.setWidth 16 &&& 0x1).toNat = bn.toNat % 2 := by
      simp [BitVec.toNat_and, Nat.and_one_is_mod]
    rw [BitVec.toNat_shiftLeft, hmask, Nat.shiftLeft_eq]
    omega
  have hbyte : (bm.setWidth 16).toNat = bm.toNat := BitVec.toNat_setWidth_of_le (by omega)
  rw [paletteOdd, BitVec.toNat_or, hbit, hbyte]

theorem paletteEven_le (bn bm : Byte) : (paletteEven bn bm).toNat ≤ 0x1FF := by
  have hn := bn.isLt
  have hm := bm.isLt
  rw [toNat_paletteEven]
  exact Nat.le_of_lt_succ (Nat.or_lt_two_pow (n := 9) (by omega) (by omega))

theorem paletteOdd_le (bn bm : Byte) : (paletteOdd bn bm).toNat ≤ 0xFF := by
  have hm := bm.isLt
  rw [toNat_paletteOdd]
  exact Nat.le_of_lt_succ (Nat.or_lt_two_pow (n := 8) (by omega) hm)

/-- Settles O45: two even outputs and two odd ones. -/
theorem paletteFormula : Obligations.PaletteFormula :=
  fun _ => ⟨toNat_paletteEven _ _, toNat_paletteOdd _ _, toNat_paletteEven _ _, toNat_paletteOdd _ _,
    paletteEven_le _ _, paletteOdd_le _ _, paletteEven_le _ _, paletteOdd_le _ _⟩

/-- A bit of an even output joins the bit below it of one byte and the bit above it of the other. -/
theorem getLsbD_paletteEven (bn bm : Byte) {j : Nat} (hj : j < 16) :
    (paletteEven bn bm).getLsbD j = ((decide (1 ≤ j) && bn.getLsbD (j - 1)) || bm.getLsbD (j + 1)) := by
  unfold paletteEven
  rcases j with _ | j
  · simp
  · by_cases hin : 1 + (j + 1) < 16
    · simp [hj, hin, Nat.add_comm]
    · simp [hj, hin, Nat.add_comm, BitVec.getLsbD_of_ge bm (1 + (j + 1)) (by omega)]

/-- Settles O46: bits 8 and 7 lie above every bit of the halving, and bit 0 below every bit of the doubling. -/
theorem paletteZeroBits : Obligations.PaletteZeroBits := by
  intro s
  have hbit := fun j hj => getLsbD_paletteEven (s.readShadow 0x08) (s.readShadow 0x09) (j := j) hj
  have habove := fun j hj => BitVec.getLsbD_of_ge (s.readShadow 0x09) j hj
  refine ⟨?_, ?_, fun j h1 h6 => ?_, ?_⟩
  · rw [State.palette0, hbit 8 (by omega), habove 9 (by omega)]
    simp
  · rw [State.palette0, hbit 7 (by omega), habove 8 (by omega)]
    simp
  · rw [State.palette0, hbit j (by omega)]
    simp [h1]
  · rw [State.palette0, hbit 0 (by omega)]
    simp

/-- The palette outputs look at the bytes 0x08 to 0x0C alone (46_palette_codec.md R119). -/
theorem State.palette_congr {s t : State}
    (h : ∀ a : Byte, 0x08 ≤ a.toNat → a.toNat ≤ 0x0C → t.readShadow a = s.readShadow a) :
    t.palette0 = s.palette0 ∧ t.palette1 = s.palette1 ∧ t.palette2 = s.palette2 ∧ t.palette3 = s.palette3 := by
  have h8 := h 0x08 (by decide) (by decide)
  have h9 := h 0x09 (by decide) (by decide)
  have hA := h 0x0A (by decide) (by decide)
  have hB := h 0x0B (by decide) (by decide)
  have hC := h 0x0C (by decide) (by decide)
  unfold State.palette0 State.palette1 State.palette2 State.palette3
  rw [h8, h9, hA, hB, hC]
  exact ⟨rfl, rfl, rfl, rfl⟩

/-- Settles O47: such an access stores no byte that the palette looks at. -/
theorem paletteChangesOnlyByItsBytes : Obligations.PaletteChangesOnlyByItsBytes := by
  intro i s t h hi
  obtain ⟨_, hbyte⟩ := exec_next_inv h
  refine State.palette_congr fun a hlo hhi => ?_
  rw [hbyte a, if_neg]
  rintro ⟨hwrite, rfl⟩
  rcases hi with hread | hbelow | habove
  · exact Bool.false_ne_true (hread.symm.trans hwrite)
  · omega
  · omega

end Sys2Proof.Machine
end

section
/-! Reads of the surface size, of the day of the year, of the daylight-savings port and of the shadow file
(43_screen_page.md R75 to R78, 45_clock_page.md R115 to R117, 40_dispatch.md R62). -/

namespace Sys2Proof.Machine

/-- Settles O15: rows 3 to 6, each of which completes with a half of the size as sampled. -/
theorem surfaceSizeReads : Obligations.SurfaceSizeReads := by
  refine ⟨rowTakes_of_index 2 rfl (fun _ h => h) (by decide), rowTakes_of_index 3 rfl (fun _ h => h) (by decide),
    rowTakes_of_index 4 rfl (fun _ h => h) (by decide), rowTakes_of_index 5 rfl (fun _ h => h) (by decide),
    fun s => ⟨?widthHi, ?widthLo, ?heightHi, ?heightLo⟩⟩
  case widthHi => exact readGives_nothingSent_of_exec (b := hi8 s.pins.surfW) rfl
  case widthLo => exact readGives_nothingSent_of_exec (b := lo8 s.pins.surfW) rfl
  case heightHi => exact readGives_nothingSent_of_exec (b := hi8 s.pins.surfH) rfl
  case heightLo => exact readGives_nothingSent_of_exec (b := lo8 s.pins.surfH) rfl

/-- Settles O18: rows 21 and 22, the high half at the even port. -/
theorem dayOfYearReads : Obligations.DayOfYearReads :=
  ⟨rowTakes_of_index 20 rfl (fun _ h => h) (by decide), rowTakes_of_index 21 rfl (fun _ h => h) (by decide),
    fun s => ⟨readGives_nothingSent_of_exec (b := hi8 s.pins.rtc.yday) rfl,
      readGives_nothingSent_of_exec (b := lo8 s.pins.rtc.yday) rfl⟩⟩

/-- The diagnostics port in a build with a sink (10_state.md R29). -/
theorem State.diagPort_of_sendsDiag {s t : State} {code : DiagCode} {a v : Byte}
    (h : State.SendsDiag s t code a v) (hdiag : s.caps.hasDiag = true) :
    t.diagValid = true ∧ t.diagPort = some (code.signal, a, v) := by
  rw [State.SendsDiag, if_pos hdiag] at h
  simp [State.diagValid, State.diagPort, h.1]

/-- Settles O19: row 23, which reports the byte it reads. -/
theorem daylightSavingsRead : Obligations.DaylightSavingsRead := by
  refine ⟨rowTakes_of_index 22 rfl (fun _ h => h) (by decide), fun s => ?_⟩
  have hsends := s.sendsDiag_diag_completeRead .rtcDstRead 0xCA (s.readShadow 0xCA) (s.readShadow 0xCA)
  exact ⟨_, rfl, s.readGives_diag_completeRead _ _ _ _, hsends, State.diagPort_of_sendsDiag hsends⟩

/-- Settles O20: the default row takes what no specific row takes, and only completes with the shadow byte. -/
theorem shadowRead : Obligations.ShadowRead :=
  ⟨fun _ _ hread h => decode_read_default hread h, fun s a => readGives_nothingSent_of_exec (exec_rdShadow a s)⟩

end Sys2Proof.Machine
end

section
/-! Writes that complete at once: the default write, the system diagnostics, the stub pages, the auto byte and the
half-writes (40_dispatch.md R63, 41_system_page.md R68, R71, 43_screen_page.md R85 to R91, 44_stub_pages.md). -/

namespace Sys2Proof.Machine

/-! ### The default write -/

/-- Settles O23: the default row takes what no specific row takes, and its outputs follow the byte it stores. -/
theorem shadowWrite : Obligations.ShadowWrite := by
  refine ⟨fun _ _ hwrite h => decode_write_default hwrite h, fun s a v hidle => ⟨_, rfl, ?_⟩⟩
  obtain ⟨hstores, hcompletes, hfsm, hcore, henv, hsent⟩ :=
    State.quietWrite_performWrite hidle (a := a) (v := v) (row := fun t => t) (r := s.scr) rfl
  refine ⟨hstores, hcompletes, rfl, hfsm, hcore, henv, hsent, ?_, ?_, ?_, ?_, ?_⟩
  · rcases eq_or_ne a 0x0F with rfl | hne
    · rw [State.halt, hstores 0x0F, if_pos rfl, if_pos rfl]
    · rw [State.halt, hstores 0x0F, if_neg hne, if_neg hne.symm, State.halt]
  · simp only [State.palette0, hstores 0x08, hstores 0x09, eq_comm]
  · simp only [State.palette1, hstores 0x09, hstores 0x0A, eq_comm]
  · simp only [State.palette2, hstores 0x0A, hstores 0x0B, eq_comm]
  · simp only [State.palette3, hstores 0x0B, hstores 0x0C, eq_comm]

/-! ### Writes that report -/

/-- What a write does that reports its byte to the diagnostics sink. -/
def State.ReportedWrite (s t : State) (code : DiagCode) (a v : Byte) : Prop :=
  State.StoresByte s t a v ∧ State.SendsDiag s t code a v ∧
  (s.caps.hasDiag = true → t.diagPort = some (code.signal, a, v)) ∧ State.WriteCompletes t ∧ t.scr = s.scr ∧
  t.fsm = s.fsm ∧ t.core = s.core ∧ State.SameEnvironment s t

theorem State.reportedWrite_performWrite {s : State} (hidle : s.fsm.phase = .idle) {code : DiagCode} {a v : Byte}
    {row : State → State} (hrow : row (s.storeShadow a v) = (s.storeShadow a v).diag code a v) :
    State.ReportedWrite s (s.performWrite a v row) code a v := by
  have hstores := s.performWrite_readShadow a v row (by rw [hrow, State.diag_shadow])
  have hcompletes : State.WriteCompletes (s.performWrite a v row) :=
    State.writeCompletes_performWrite (by rw [hrow, State.diag_fsm]; exact hidle)
  have hsends : State.SendsDiag s (s.performWrite a v row) code a v := by
    unfold State.performWrite
    rw [hrow]
    exact (s.storeShadow a v).sendsDiag_diag code a v
  refine ⟨hstores, hsends, fun hdiag => (State.diagPort_of_sendsDiag hsends hdiag).2, hcompletes, ?_⟩
  unfold State.performWrite
  rw [hrow]
  simp [State.SameEnvironment]

/-- A system diagnostic write reports its byte unless it is zero (41_system_page.md R68, R71). -/
theorem State.systemDiagnosticWrite {s : State} (hidle : s.fsm.phase = .idle) (code : DiagCode) (a v : Byte) :
    ∃ t, (.next (s.performWrite a v (fun t => if v = 0x00 then t else t.diag code a v)) : Outcome) = .next t ∧
      State.StoresByte s t a v ∧ State.WriteCompletes t ∧ (v = 0x00 → State.NothingSent s t) ∧
      (v ≠ 0x00 → State.SendsDiag s t code a v) ∧
      (v ≠ 0x00 → s.caps.hasDiag = true → t.diagPort = some (code.signal, a, v)) ∧
      t.scr = s.scr ∧ t.fsm = s.fsm ∧ t.core = s.core ∧ State.SameEnvironment s t := by
  refine ⟨_, rfl, ?_⟩
  by_cases hv : v = 0x00
  · obtain ⟨hstores, hcompletes, hfsm, hcore, henv, hsent⟩ := State.quietWrite_performWrite hidle (a := a) (v := v)
      (row := fun t => if v = 0x00 then t else t.diag code a v) (r := s.scr) (if_pos hv)
    have hrow : (if v = 0x00 then s.storeShadow a v else (s.storeShadow a v).diag code a v) = s.storeShadow a v :=
      if_pos hv
    have hscr : (s.performWrite a v (fun t => if v = 0x00 then t else t.diag code a v)).scr = s.scr :=
      congrArg (fun r => r.finishWrite.scr) hrow
    exact ⟨hstores, hcompletes, fun _ => hsent, fun hne => absurd hv hne, fun hne => absurd hv hne, hscr, hfsm, hcore,
      henv⟩
  · obtain ⟨hstores, hsends, hport, hcompletes, hscr, hfsm, hcore, henv⟩ := State.reportedWrite_performWrite hidle
      (row := fun t => if v = 0x00 then t else t.diag code a v) (if_neg hv)
    exact ⟨hstores, hcompletes, fun hzero => absurd hzero hv, fun _ => hsends, fun _ => hport, hscr, hfsm, hcore, henv⟩

/-- Settles O25: rows 25 and 28, with codes 0 and 1. -/
theorem systemDiagnosticWrites : Obligations.SystemDiagnosticWrites :=
  ⟨rowTakes_of_index 24 rfl (fun _ _ => rfl) (by decide), rowTakes_of_index 27 rfl (fun _ _ => rfl) (by decide),
    fun _ v hidle => ⟨State.systemDiagnosticWrite hidle .expansion 0x03 v,
      State.systemDiagnosticWrite hidle .stackDump 0x0E v⟩⟩

/-- A stub page write reports its byte and its address, whatever they are (44_stub_pages.md R101 to R106). -/
theorem State.reportedWrite_stub {s : State} (hidle : s.fsm.phase = .idle) (code : DiagCode) (q p : BitVec 4)
    (v : Byte) : ∃ t, (.next (stubWrite code (pageAddr q p) v s) : Outcome) = .next t ∧
      State.ReportedWrite s t code (q ++ p) v := by
  rw [pageAddr_eq_append]
  exact ⟨_, rfl, State.reportedWrite_performWrite hidle rfl⟩

/-- Settles O41: rows 40 to 43, with code 2. -/
theorem audioWrites : Obligations.AudioWrites := by
  refine ⟨rowTakes_of_index 39 rfl (fun _ _ => rfl) (by decide), rowTakes_of_index 40 rfl (fun _ _ => rfl) (by decide),
    rowTakes_of_index 41 rfl (fun _ _ => rfl) (by decide), rowTakes_of_index 42 rfl (fun _ _ => rfl) (by decide),
    fun s p v hidle i a hmem => ?_⟩
  simp only [List.mem_cons, Prod.mk.injEq, List.not_mem_nil, or_false] at hmem
  rcases hmem with ⟨rfl, rfl⟩ | ⟨rfl, rfl⟩ | ⟨rfl, rfl⟩ | ⟨rfl, rfl⟩
  · exact State.reportedWrite_stub hidle .audioWrite 0x3 p v
  · exact State.reportedWrite_stub hidle .audioWrite 0x4 p v
  · exact State.reportedWrite_stub hidle .audioWrite 0x5 p v
  · exact State.reportedWrite_stub hidle .audioWrite 0x6 p v

/-- Settles O42: rows 44 and 45, with code 3. -/
theorem fileWrites : Obligations.FileWrites := by
  refine ⟨rowTakes_of_index 43 rfl (fun _ _ => rfl) (by decide), rowTakes_of_index 44 rfl (fun _ _ => rfl) (by decide),
    fun s p v hidle i a hmem => ?_⟩
  simp only [List.mem_cons, Prod.mk.injEq, List.not_mem_nil, or_false] at hmem
  rcases hmem with ⟨rfl, rfl⟩ | ⟨rfl, rfl⟩
  · exact State.reportedWrite_stub hidle .fileWrite 0xA p v
  · exact State.reportedWrite_stub hidle .fileWrite 0xB p v

/-! ### The auto byte and the sprite address -/

/-- Settles O28: row 31, a quiet write that sets the auto fields. -/
theorem autoByteWrite : Obligations.AutoByteWrite :=
  ⟨rowTakes_of_index 30 rfl (fun _ h => h) (by decide), fun _ _ hidle =>
    ⟨_, rfl, rfl, rfl, rfl, State.quietWrite_performWrite hidle rfl⟩⟩

/-- `scr.sprite` after a store: the half at the stored address is the byte, the other comes from its shadow byte
(43_screen_page.md R90, R91). -/
theorem State.performWrite_composeSprite_scr (s : State) (a v : Byte) :
    (s.performWrite a v (fun t => t.composeSprite)).scr = { s.scr with
      sprite := cat16 (if 0x2C = a then v else s.readShadow 0x2C) (if 0x2D = a then v else s.readShadow 0x2D) } := by
  simp [State.performWrite]

/-- Settles O30: rows 36 and 37, each a quiet write that composes the register. -/
theorem spriteHalfWrites : Obligations.SpriteHalfWrites :=
  ⟨rowTakes_of_index 35 rfl (fun _ h => h) (by decide), rowTakes_of_index 36 rfl (fun _ h => h) (by decide),
    fun s v hidle => ⟨⟨_, rfl, s.performWrite_composeSprite_scr 0x2C v, State.quietWrite_performWrite hidle rfl⟩,
      ⟨_, rfl, s.performWrite_composeSprite_scr 0x2D v, State.quietWrite_performWrite hidle rfl⟩⟩⟩

/-! ### Half-writes after one another -/

/-- A register that a row composes from two shadow bytes is the composition of the bytes written to both, whichever
half came last (30_encoding.md R52). -/
theorem composed_of_two_halves {row : State → State} {reg : State → Half} {hi lo : Byte}
    (hrow : ∀ t, (row t).shadow = t.shadow)
    (hreg : ∀ t a v, reg (State.performWrite t a v row) =
      cat16 ((t.performWrite a v row).readShadow hi) ((t.performWrite a v row).readShadow lo))
    (hne : hi ≠ lo) (s : State) (h l : Byte) :
    reg ((s.performWrite hi h row).performWrite lo l row) = cat16 h l ∧
    reg ((s.performWrite lo l row).performWrite hi h row) = cat16 h l := by
  have hread := fun t a v b => State.performWrite_readShadow t a v row (hrow _) b
  constructor
  · rw [hreg, hread, if_neg hne, hread, if_pos rfl, hread, if_pos rfl]
  · rw [hreg, hread, if_pos rfl, hread, if_neg hne.symm, hread, if_pos rfl]

/-- Two reads give back the halves of the register that they look at. -/
theorem reads_of_cat16 {u : State} {hi lo : Instr} {r : Half} {h l : Byte} (hr : r = cat16 h l)
    (hhi : exec hi u = .next (u.completeRead (hi8 r))) (hlo : exec lo u = .next (u.completeRead (lo8 r))) :
    ∃ p q, exec hi u = .next p ∧ p.accRdata = some h ∧ exec lo u = .next q ∧ q.accRdata = some l :=
  ⟨_, _, hhi, by rw [hr]; simp, hlo, by rw [hr]; simp⟩

/-- Settles O31: the second write composes the register from both bytes, whichever half it is. -/
theorem halfWritesReadBack : Obligations.HalfWritesReadBack := by
  intro s h l
  obtain ⟨hx, hx'⟩ := composed_of_two_halves (reg := fun t => t.scr.x) (hi := 0x28) (lo := 0x29)
    State.composeX_shadow (fun _ _ _ => rfl) (by decide) s h l
  obtain ⟨hy, hy'⟩ := composed_of_two_halves (reg := fun t => t.scr.y) (hi := 0x2A) (lo := 0x2B)
    State.composeY_shadow (fun _ _ _ => rfl) (by decide) s h l
  obtain ⟨hsprite, hsprite'⟩ := composed_of_two_halves (reg := fun t => t.scr.sprite) (hi := 0x2C) (lo := 0x2D)
    State.composeSprite_shadow (fun _ _ _ => rfl) (by decide) s h l
  exact ⟨⟨_, _, rfl, rfl, hx, reads_of_cat16 hx rfl rfl⟩, ⟨_, _, rfl, rfl, hx', reads_of_cat16 hx' rfl rfl⟩,
    ⟨_, _, rfl, rfl, hy, reads_of_cat16 hy rfl rfl⟩, ⟨_, _, rfl, rfl, hy', reads_of_cat16 hy' rfl rfl⟩,
    ⟨_, _, rfl, rfl, hsprite', reads_of_cat16 hsprite' rfl rfl⟩,
    ⟨_, _, rfl, rfl, hsprite, reads_of_cat16 hsprite rfl rfl⟩⟩

/-- Settles O39: the increment is in the register alone, and a half-write composes from the shadow bytes. -/
theorem halfWriteDiscardsIncrement : Obligations.HalfWriteDiscardsIncrement := by
  intro s v w hv hr hx hy
  obtain ⟨t, hexec, _, _, _, hscr, hstores, _⟩ := pixelDrawAnswered.2 s v true hv hr hx hy
  have hbytes : ∀ a, a ≠ 0x2E → t.readShadow a = s.readShadow a := fun a ha => by rw [hstores a, if_neg ha]
  refine ⟨t, hexec, hbytes, fun hauto => ⟨?_, ⟨_, rfl, ?_⟩, _, rfl, ?_⟩, fun hauto => ⟨?_, ⟨_, rfl, ?_⟩, _, rfl, ?_⟩⟩
  · simp [hscr, hauto]
  · simp [State.performWrite_composeX_scr, hbytes]
  · simp [State.performWrite_composeX_scr, hbytes]
  · simp [hscr, hauto]
  · simp [State.performWrite_composeY_scr, hbytes]
  · simp [State.performWrite_composeY_scr, hbytes]

end Sys2Proof.Machine
end
